-- ==== Sys2Proof/Word.lean ====
section
/-! DEFINITION. The word types of the machine (00_scope.md R9, R10): 32-bit registers and addresses, bytes,
and the 64-bit doublewords of the virtual doubleword registers. -/

namespace Sys2Proof

/-- A 32-bit register value or address (00_scope.md R9). Bit 0 of the spec is the most significant bit (R10). -/
abbrev Word := BitVec 32

/-- One byte of memory (20_memory.md R103). -/
abbrev Byte := BitVec 8

/-- A 64-bit doubleword (20_memory.md R103, R104). -/
abbrev Dword := BitVec 64

end Sys2Proof
end

