-- ==== Sys2Proof/Syntax.lean ====
section
/-! DEFINITION. The instructions: one constructor per row of the opcode table, its operand fields as the encoding gives them
(30_encoding.md R143, R144, R187). A register field holds a defined register: an undefined number never leaves the decoder
(R31, R33). Every other variable field is raw; WellFormed.lean and the meanings say which of its values are legal (R178). -/

namespace Sys2Proof

/-- The 16 general registers (10_state.md R30). -/
inductive Gpr where
  | r0 | r1 | r2 | r3 | r4 | r5 | r6 | r7 | r8 | r9 | r10 | r13 | r28 | r29 | r30 | r31
  deriving DecidableEq, Repr

/-- The 14 virtual doubleword registers, named by the number of their high-order GPR (10_state.md R33). -/
inductive Vdr where
  | d0 | d1 | d2 | d3 | d4 | d5 | d6 | d7 | d8 | d9 | d28 | d29 | d30 | d31
  deriving DecidableEq, Repr

/-- The number of a GPR in a 5-bit register field (10_state.md R30). -/
def Gpr.num : Gpr → BitVec 5
  | .r0 => 0
  | .r1 => 1
  | .r2 => 2
  | .r3 => 3
  | .r4 => 4
  | .r5 => 5
  | .r6 => 6
  | .r7 => 7
  | .r8 => 8
  | .r9 => 9
  | .r10 => 10
  | .r13 => 13
  | .r28 => 28
  | .r29 => 29
  | .r30 => 30
  | .r31 => 31

/-- The number of a VDR in a 5-bit register field (10_state.md R33). -/
def Vdr.num : Vdr → BitVec 5
  | .d0 => 0
  | .d1 => 1
  | .d2 => 2
  | .d3 => 3
  | .d4 => 4
  | .d5 => 5
  | .d6 => 6
  | .d7 => 7
  | .d8 => 8
  | .d9 => 9
  | .d28 => 28
  | .d29 => 29
  | .d30 => 30
  | .d31 => 31

/-- The GPR with the high-order word of a VDR (10_state.md R33). -/
def Vdr.high : Vdr → Gpr
  | .d0 => .r0
  | .d1 => .r1
  | .d2 => .r2
  | .d3 => .r3
  | .d4 => .r4
  | .d5 => .r5
  | .d6 => .r6
  | .d7 => .r7
  | .d8 => .r8
  | .d9 => .r9
  | .d28 => .r28
  | .d29 => .r29
  | .d30 => .r30
  | .d31 => .r31

/-- The GPR with the low-order word of a VDR: the next one, modulo 32 (10_state.md R33). -/
def Vdr.low : Vdr → Gpr
  | .d0 => .r1
  | .d1 => .r2
  | .d2 => .r3
  | .d3 => .r4
  | .d4 => .r5
  | .d5 => .r6
  | .d6 => .r7
  | .d7 => .r8
  | .d8 => .r9
  | .d9 => .r10
  | .d28 => .r29
  | .d29 => .r30
  | .d30 => .r31
  | .d31 => .r0

/-- An instruction of either variant (30_encoding.md R170). -/
inductive Instr where
  /-- `add`: 40_arith.md R202. -/
  | add (rt ra rb : Gpr) (oe rc : Bool)
  /-- `addc`: 40_arith.md R203. -/
  | addc (rt ra rb : Gpr) (oe rc : Bool)
  /-- `adde`: 40_arith.md R204. -/
  | adde (rt ra rb : Gpr) (oe rc : Bool)
  /-- `addi`: 40_arith.md R205. -/
  | addi (rt ra : Gpr) (si : BitVec 16)
  /-- `addic`: 40_arith.md R206. -/
  | addic (rt ra : Gpr) (si : BitVec 16)
  /-- `addic.`: 40_arith.md R207. -/
  | addicDot (rt ra : Gpr) (si : BitVec 16)
  /-- `addis`: 40_arith.md R208. -/
  | addis (rt ra : Gpr) (si : BitVec 16)
  /-- `addme`: 40_arith.md R209. -/
  | addme (rt ra : Gpr) (oe rc : Bool)
  /-- `addze`: 40_arith.md R210. -/
  | addze (rt ra : Gpr) (oe rc : Bool)
  /-- `subf`: 40_arith.md R211. -/
  | subf (rt ra rb : Gpr) (oe rc : Bool)
  /-- `subfc`: 40_arith.md R212. -/
  | subfc (rt ra rb : Gpr) (oe rc : Bool)
  /-- `subfe`: 40_arith.md R213. -/
  | subfe (rt ra rb : Gpr) (oe rc : Bool)
  /-- `subfic`: 40_arith.md R214. -/
  | subfic (rt ra : Gpr) (si : BitVec 16)
  /-- `subfme`: 40_arith.md R215. -/
  | subfme (rt ra : Gpr) (oe rc : Bool)
  /-- `subfze`: 40_arith.md R216. -/
  | subfze (rt ra : Gpr) (oe rc : Bool)
  /-- `neg`: 40_arith.md R217. -/
  | neg (rt ra : Gpr) (oe rc : Bool)
  /-- `mulli`: 40_arith.md R218 (PPE 42X). -/
  | mulli (rt ra : Gpr) (si : BitVec 16)
  /-- `mullw`: 40_arith.md R219 (PPE 42X). -/
  | mullw (rt ra rb : Gpr) (oe rc : Bool)
  /-- `mullhw`: 40_arith.md R220. -/
  | mullhw (rt ra rb : Gpr) (rc : Bool)
  /-- `mullhwu`: 40_arith.md R221. -/
  | mullhwu (rt ra rb : Gpr) (rc : Bool)
  /-- `and`: 41_logical.md R241. -/
  | and (ra rs rb : Gpr) (rc : Bool)
  /-- `andc`: 41_logical.md R242. -/
  | andc (ra rs rb : Gpr) (rc : Bool)
  /-- `or`: 41_logical.md R243. -/
  | or (ra rs rb : Gpr) (rc : Bool)
  /-- `orc`: 41_logical.md R244. -/
  | orc (ra rs rb : Gpr) (rc : Bool)
  /-- `xor`: 41_logical.md R245. -/
  | xor (ra rs rb : Gpr) (rc : Bool)
  /-- `nand`: 41_logical.md R246. -/
  | nand (ra rs rb : Gpr) (rc : Bool)
  /-- `nor`: 41_logical.md R247. -/
  | nor (ra rs rb : Gpr) (rc : Bool)
  /-- `eqv`: 41_logical.md R248. -/
  | eqv (ra rs rb : Gpr) (rc : Bool)
  /-- `andi.`: 41_logical.md R249. -/
  | andiDot (ra rs : Gpr) (ui : BitVec 16)
  /-- `andis.`: 41_logical.md R250. -/
  | andisDot (ra rs : Gpr) (ui : BitVec 16)
  /-- `ori`: 41_logical.md R251. -/
  | ori (ra rs : Gpr) (ui : BitVec 16)
  /-- `oris`: 41_logical.md R252. -/
  | oris (ra rs : Gpr) (ui : BitVec 16)
  /-- `xori`: 41_logical.md R253. -/
  | xori (ra rs : Gpr) (ui : BitVec 16)
  /-- `xoris`: 41_logical.md R254. -/
  | xoris (ra rs : Gpr) (ui : BitVec 16)
  /-- `extsb`: 41_logical.md R255. -/
  | extsb (ra rs : Gpr) (rc : Bool)
  /-- `extsh`: 41_logical.md R256. -/
  | extsh (ra rs : Gpr) (rc : Bool)
  /-- `cntlzw`: 41_logical.md R257. -/
  | cntlzw (ra rs : Gpr) (rc : Bool)
  /-- `rlwimi`: 42_rotate_shift.md R271. -/
  | rlwimi (ra rs : Gpr) (sh mb me : BitVec 5) (rc : Bool)
  /-- `rlwinm`: 42_rotate_shift.md R272. -/
  | rlwinm (ra rs : Gpr) (sh mb me : BitVec 5) (rc : Bool)
  /-- `rlwnm`: 42_rotate_shift.md R273. -/
  | rlwnm (ra rs rb : Gpr) (mb me : BitVec 5) (rc : Bool)
  /-- `slw`: 42_rotate_shift.md R275. -/
  | slw (ra rs rb : Gpr) (rc : Bool)
  /-- `srw`: 42_rotate_shift.md R276. -/
  | srw (ra rs rb : Gpr) (rc : Bool)
  /-- `sraw`: 42_rotate_shift.md R277. -/
  | sraw (ra rs rb : Gpr) (rc : Bool)
  /-- `srawi`: 42_rotate_shift.md R278. -/
  | srawi (ra rs : Gpr) (sh : BitVec 5) (rc : Bool)
  /-- `rldicl`: 42_rotate_shift.md R280 (PPE 42X). -/
  | rldicl (da ds : Vdr) (sh mb : BitVec 6) (rc : Bool)
  /-- `rldicr`: 42_rotate_shift.md R281 (PPE 42X). -/
  | rldicr (da ds : Vdr) (sh me : BitVec 6) (rc : Bool)
  /-- `rldimi`: 42_rotate_shift.md R282 (PPE 42X). -/
  | rldimi (da ds : Vdr) (sh mb : BitVec 6) (rc : Bool)
  /-- `slvd`: 42_rotate_shift.md R284 (PPE 42X). -/
  | slvd (da ds : Vdr) (rb : Gpr) (rc : Bool)
  /-- `srvd`: 42_rotate_shift.md R285 (PPE 42X). -/
  | srvd (da ds : Vdr) (rb : Gpr) (rc : Bool)
  /-- `cmpw`: 43_compare.md R301. -/
  | cmpw (ra rb : Gpr)
  /-- `cmplw`: 43_compare.md R302. -/
  | cmplw (ra rb : Gpr)
  /-- `cmpwi`: 43_compare.md R303. -/
  | cmpwi (ra : Gpr) (si : BitVec 16)
  /-- `cmplwi`: 43_compare.md R304. -/
  | cmplwi (ra : Gpr) (ui : BitVec 16)
  /-- `b`: 44_branch.md R311. -/
  | b (li : BitVec 24) (aa lk : Bool)
  /-- `bc`: 44_branch.md R312. -/
  | bc (bo bi : BitVec 5) (bd : BitVec 14) (aa lk : Bool)
  /-- `bcctr`: 44_branch.md R313. -/
  | bcctr (bo bi : BitVec 5) (lk : Bool)
  /-- `bclr`: 44_branch.md R314. -/
  | bclr (bo bi : BitVec 5) (lk : Bool)
  /-- `cmpwbc`: 45_fused_compare_branch.md R339. -/
  | cmpwbc (px : Bool) (bix : BitVec 2) (ra rb : Gpr) (bdx : BitVec 10) (lk : Bool)
  /-- `cmplwbc`: 45_fused_compare_branch.md R338. -/
  | cmplwbc (px : Bool) (bix : BitVec 2) (ra rb : Gpr) (bdx : BitVec 10) (lk : Bool)
  /-- `cmpwibc`: 45_fused_compare_branch.md R340. -/
  | cmpwibc (px : Bool) (bix : BitVec 2) (ra : Gpr) (uix : BitVec 5) (bdx : BitVec 10) (lk : Bool)
  /-- `bnbwi`: 45_fused_compare_branch.md R335. -/
  | bnbwi (px : Bool) (ra : Gpr) (bnx : BitVec 5) (bdx : BitVec 10) (lk : Bool)
  /-- `bnbw`: 45_fused_compare_branch.md R334. -/
  | bnbw (px : Bool) (ra rb : Gpr) (bdx : BitVec 10) (lk : Bool)
  /-- `clrbwibc`: 45_fused_compare_branch.md R337. -/
  | clrbwibc (px : Bool) (ra : Gpr) (bnx : BitVec 5) (bdx : BitVec 10) (lk : Bool)
  /-- `clrbwbc`: 45_fused_compare_branch.md R336. -/
  | clrbwbc (px : Bool) (ra rb : Gpr) (bdx : BitVec 10) (lk : Bool)
  /-- `lbz`: 46_load_store.md R360. -/
  | lbz (rt ra : Gpr) (d : BitVec 16)
  /-- `lbzu`: 46_load_store.md R361. -/
  | lbzu (rt ra : Gpr) (d : BitVec 16)
  /-- `lbzx`: 46_load_store.md R362. -/
  | lbzx (rt ra rb : Gpr)
  /-- `lhz`: 46_load_store.md R363. -/
  | lhz (rt ra : Gpr) (d : BitVec 16)
  /-- `lhzu`: 46_load_store.md R364. -/
  | lhzu (rt ra : Gpr) (d : BitVec 16)
  /-- `lhzx`: 46_load_store.md R365. -/
  | lhzx (rt ra rb : Gpr)
  /-- `lwz`: 46_load_store.md R366. -/
  | lwz (rt ra : Gpr) (d : BitVec 16)
  /-- `lwzu`: 46_load_store.md R367. -/
  | lwzu (rt ra : Gpr) (d : BitVec 16)
  /-- `lwzx`: 46_load_store.md R368. -/
  | lwzx (rt ra rb : Gpr)
  /-- `lvd`: 46_load_store.md R369. -/
  | lvd (dt : Vdr) (ra : Gpr) (d : BitVec 16)
  /-- `lvdu`: 46_load_store.md R370. -/
  | lvdu (dt : Vdr) (ra : Gpr) (d : BitVec 16)
  /-- `lvdx`: 46_load_store.md R371. -/
  | lvdx (dt : Vdr) (ra rb : Gpr)
  /-- `stb`: 46_load_store.md R375. -/
  | stb (rs ra : Gpr) (d : BitVec 16)
  /-- `stbu`: 46_load_store.md R376. -/
  | stbu (rs ra : Gpr) (d : BitVec 16)
  /-- `stbx`: 46_load_store.md R377. -/
  | stbx (rs ra rb : Gpr)
  /-- `sth`: 46_load_store.md R378. -/
  | sth (rs ra : Gpr) (d : BitVec 16)
  /-- `sthu`: 46_load_store.md R379. -/
  | sthu (rs ra : Gpr) (d : BitVec 16)
  /-- `sthx`: 46_load_store.md R380. -/
  | sthx (rs ra rb : Gpr)
  /-- `stw`: 46_load_store.md R381. -/
  | stw (rs ra : Gpr) (d : BitVec 16)
  /-- `stwu`: 46_load_store.md R382. -/
  | stwu (rs ra : Gpr) (d : BitVec 16)
  /-- `stwx`: 46_load_store.md R383. -/
  | stwx (rs ra rb : Gpr)
  /-- `stvd`: 46_load_store.md R384. -/
  | stvd (ds : Vdr) (ra : Gpr) (d : BitVec 16)
  /-- `stvdu`: 46_load_store.md R385. -/
  | stvdu (ds : Vdr) (ra : Gpr) (d : BitVec 16)
  /-- `stvdx`: 46_load_store.md R386. -/
  | stvdx (ds : Vdr) (ra rb : Gpr)
  /-- `lsku`: 47_stack.md R404 (PPE 42X). -/
  | lsku (rt ra : Gpr) (dd : BitVec 13)
  /-- `lcxu`: 47_stack.md R406 (PPE 42X). -/
  | lcxu (rt ra : Gpr) (dd : BitVec 13)
  /-- `stsku`: 47_stack.md R407 (PPE 42X). -/
  | stsku (rs ra : Gpr) (dd : BitVec 13)
  /-- `stcxu`: 47_stack.md R408 (PPE 42X). -/
  | stcxu (rs ra : Gpr) (dd : BitVec 13)
  /-- `dcbf`: 48_cache_sync.md R421. -/
  | dcbf (ra rb : Gpr)
  /-- `dcbi`: 48_cache_sync.md R422. -/
  | dcbi (ra rb : Gpr)
  /-- `dcbt`: 48_cache_sync.md R424. -/
  | dcbt (ra rb : Gpr)
  /-- `dcbz`: 48_cache_sync.md R425. -/
  | dcbz (ra rb : Gpr)
  /-- `dcbq`: 48_cache_sync.md R423. -/
  | dcbq (rt ra rb : Gpr)
  /-- `sync`: 48_cache_sync.md R426. -/
  | sync
  /-- `mfcr`: 49_system.md R441. -/
  | mfcr (rt : Gpr)
  /-- `mtcrf`: 49_system.md R442 (`mtcr0`). -/
  | mtcrf (rs : Gpr)
  /-- `mfmsr`: 49_system.md R443. -/
  | mfmsr (rt : Gpr)
  /-- `mtmsr`: 49_system.md R444. -/
  | mtmsr (rs : Gpr)
  /-- `mfspr`: 49_system.md R449. -/
  | mfspr (rt : Gpr) (sprn : BitVec 10)
  /-- `mtspr`: 49_system.md R446. -/
  | mtspr (sprn : BitVec 10) (rs : Gpr)
  /-- `rfi`: 49_system.md R447. -/
  | rfi
  /-- `tw`: 49_system.md R448; the register fields stay raw because their check depends on TG. -/
  | tw (cond ra rb : BitVec 5) (tg : Bool)
  /-- `wrtee`: 49_system.md R450. -/
  | wrtee (rs : Gpr)
  /-- `wrteei`: 49_system.md R451. -/
  | wrteei (e : Bool)
  deriving DecidableEq, Repr

end Sys2Proof
end

