-- ==== Sys2Proof/Config.lean ====
section
/-! DEFINITION. The parameters an instance of the core fixes (00_scope.md R9; 92_eei_decisions.md section 2), as plain data that
State holds and no step changes, and the free values of the model. -/

namespace Sys2Proof

/-- Which core the instance is (00_scope.md R3). -/
inductive Variant where
  /-- The original PPE 42. -/
  | ppe42
  /-- The PPE 42X, a strict superset. -/
  | ppe42x
  deriving DecidableEq, Repr

/-- `SMS_ENCODING`: the 4-bit code of each control state, which the source does not give (62_debug_xir.md R640; log 24). -/
structure SmsCodes where
  running : BitVec 4
  waiting : BitVec 4
  halted : BitVec 4
  stepping : BitVec 4
  ramming : BitVec 4
  resetting : BitVec 4
  deriving DecidableEq, Repr

/-- `FCB_ENC`: the FCBXO code of each fused comparison and of the bit forms, and the BBXO code of each bit form (30_encoding.md R160;
log 12). -/
structure FcbCodes where
  cmpwbc : BitVec 2
  cmplwbc : BitVec 2
  cmpwibc : BitVec 2
  /-- The FCBXO code under which BBXO selects. -/
  bitForm : BitVec 2
  bnbwi : BitVec 2
  bnbw : BitVec 2
  clrbwibc : BitVec 2
  clrbwbc : BitVec 2
  deriving DecidableEq, Repr

/-- The spec's placeholder, no claim about hardware (30_encoding.md R160; log 12). -/
def FcbCodes.placeholder : FcbCodes := ⟨0, 1, 2, 3, 0, 1, 2, 3⟩

/-- The constraint on `FCB_ENC`: FCBXO and BBXO are each a bijection onto the four codes (30_encoding.md R160). -/
def FcbCodes.injective (e : FcbCodes) : Bool :=
  decide ([e.cmpwbc, e.cmplwbc, e.cmpwibc, e.bitForm].Nodup ∧ [e.bnbwi, e.bnbw, e.clrbwibc, e.clrbwbc].Nodup)

/-- One value that an instance puts in place of a power-on default, as a 32-bit image of its register (`RESET_STATE_OVERRIDE`,
70_reset_and_hazards.md R708; log 40). -/
inductive Override where
  | gpr (r : Gpr) (v : Word)
  | cr (v : Word)
  | xer (v : Word)
  | msr (v : Word)
  | iar (v : Word)
  | ir (v : Word)
  | lr (v : Word)
  | ctr (v : Word)
  | dec (v : Word)
  | srr0 (v : Word)
  | srr1 (v : Word)
  | edr (v : Word)
  | isr (v : Word)
  | sprg0 (v : Word)
  | dbcr (v : Word)
  | dacr (v : Word)
  | tsr (v : Word)
  | tcr (v : Word)
  /-- The stored bits of the XSR but RIP and SIP. -/
  | xsr (v : Word)
  deriving DecidableEq, Repr

/-- `DCBF_IS_STORE`: how `dcbf` is classified (60_exceptions.md R527; 90_conflicts.md C2). -/
inductive DcbfClass where
  /-- Load-type in ISR[ST] and the machine-check code, store-type in the data-address-compare debug event (90_conflicts.md C2). -/
  | perUse
  /-- Load-type everywhere. -/
  | load
  /-- Store-type everywhere. -/
  | store
  deriving DecidableEq, Repr

/-- The parameters of an instance (00_scope.md R9). Their values at reset are the closed defaults of 92_eei_decisions.md
section 2 (log 1, log 2). No step changes them. -/
structure Config where
  /-- `VARIANT` (00_scope.md R3). -/
  variant : Variant
  /-- `PIR_VALUE`: PIR[16:31] (10_state.md R61). -/
  pirValue : BitVec 16
  /-- `PVR_ISVI`: PVR[12:31] (10_state.md R62). -/
  pvrIsvi : BitVec 20
  /-- `IVPR_VALUE`: IVPR[0:22] (10_state.md R60). -/
  ivpr : BitVec 23
  /-- `BLOCK_SIZE` is `8 * 2 ^ blockShift` bytes: a power of two of at least 8 (20_memory.md R117). -/
  blockShift : Nat
  /-- `HAS_DCACHE`: whether the memory subsystem has a data cache (48_cache_sync.md R420; log 28). -/
  hasDcache : Bool
  /-- Bits 0:30 of a `dcbq` result where there is no data cache (48_cache_sync.md R423; log 8). -/
  dcbqBits : BitVec 31
  /-- `DCBF_IS_STORE` (60_exceptions.md R527). -/
  dcbfClass : DcbfClass
  /-- `IMPRECISE_SUPPORTED` (20_memory.md R125). -/
  imprecise : Bool
  /-- `MAX_OUTSTANDING_STORES` (20_memory.md R125). -/
  maxStores : Nat
  /-- Whether a later data access reports pending imprecise errors (60_exceptions.md R517 says it may; log 23). -/
  reportAtAccess : Bool
  /-- `XIR_GPR_ACCESS` (62_debug_xir.md R608). -/
  xirGprAccess : Bool
  /-- `SMS_ENCODING` (62_debug_xir.md R640). -/
  sms : SmsCodes
  /-- `FCB_ENC` (30_encoding.md R160). -/
  fcb : FcbCodes
  /-- `RESET_STATE_OVERRIDE`, applied in order (70_reset_and_hazards.md R708). -/
  overrides : List Override
  deriving DecidableEq, Repr

/-- The block size in bytes (20_memory.md R117). -/
def Config.blockBytes (c : Config) : Nat := 8 * 2 ^ c.blockShift

/-- The closed defaults of 92_eei_decisions.md section 2, with the variant PPE 42X (log 1, log 2). -/
def Config.default : Config where
  variant := .ppe42x
  pirValue := 0
  pvrIsvi := 0
  ivpr := 0
  blockShift := 2
  hasDcache := false
  dcbqBits := 0
  dcbfClass := .perUse
  imprecise := false
  maxStores := 1
  reportAtAccess := false
  xirGprAccess := false
  sms := ⟨0, 0, 0, 0, 0, 0⟩
  fcb := .placeholder
  overrides := []

/-- The value that a masked SIB access with a non-zero return code loads or leaves: the spec calls it instance specific and gives
none (20_memory.md R138; log 22). -/
opaque freeDword : Nat → Dword

/-- Which of several addresses of imprecise store errors EDR reports (60_exceptions.md R514; log 23). -/
opaque freeIndex : Nat → Nat

end Sys2Proof
end

