-- ==== Sys2Proof/Machine/Bits.lean ====
section
/-! DEFINITION. Bit fields in the spec's numbering, masks, and byte order (00_scope.md R10, R12; 42_rotate_shift.md R270;
20_memory.md R103). -/

namespace Sys2Proof

/-- The field of `n` bits whose most significant bit is the spec's bit `a`: `w[a : a+n-1]` (00_scope.md R10). -/
def bits (w : Word) (a n : Nat) : BitVec n := w.extractLsb' (32 - a - n) n

/-- The spec's bit `i` of a 32-bit value: weight 2^(31-i) (00_scope.md R10). -/
def bitAt (w : Word) (i : Nat) : Bool := w.getMsbD i

/-- A one-bit field. -/
def ofBool (b : Bool) : BitVec 1 := BitVec.ofBool b

/-- A word that is `v` in the field whose most significant bit is the spec's bit `a`, and 0 elsewhere. -/
def place {n : Nat} (v : BitVec n) (a : Nat) : Word := v.setWidth 32 <<< (32 - a - n)

/-- `w` with the field of `n` bits at bit `a` replaced by `v` (00_scope.md R12, `REG[FIELD] <- v`). -/
def setField {n : Nat} (w : Word) (a : Nat) (v : BitVec n) : Word := (w &&& ~~~ place (BitVec.allOnes n) a) ||| place v a

/-- `w` with bit `i` replaced by `b`. -/
def setBit (w : Word) (i : Nat) (b : Bool) : Word := setField w i (ofBool b)

/-- `MASK32(mb, me)`: ones in bits `mb` through `me`, wrapping if `mb > me` (42_rotate_shift.md R270). -/
def mask32 (mb me : Nat) : Word :=
  let left : Word := BitVec.allOnes 32 >>> mb
  let right : Word := BitVec.allOnes 32 <<< (31 - me)
  if mb ≤ me then left &&& right else left ||| right

/-- `MASK64(mb, me)`: the same on 64 bits (42_rotate_shift.md R270). -/
def mask64 (mb me : Nat) : Dword :=
  let left : Dword := BitVec.allOnes 64 >>> mb
  let right : Dword := BitVec.allOnes 64 <<< (63 - me)
  if mb ≤ me then left &&& right else left ||| right

/-- `ROTL32(v, n)`: bit i of the result is bit (i + n) mod 32 of `v` (42_rotate_shift.md R270). -/
def rotl32 (v : Word) (n : Nat) : Word := (v <<< (n % 32)) ||| (v >>> (32 - n % 32))

/-- `ROTL64(v, n)` (42_rotate_shift.md R270). -/
def rotl64 (v : Dword) (n : Nat) : Dword := (v <<< (n % 64)) ||| (v >>> (64 - n % 64))

/-- `sext_32` of a 16-bit field (00_scope.md R12). -/
def sext16 (v : BitVec 16) : Word := v.signExtend 32

/-- `zext_32` of a 16-bit field (00_scope.md R12). -/
def zext16 (v : BitVec 16) : Word := v.setWidth 32

/-- An address with its two low-order bits replaced by 00 (20_memory.md R112). -/
def wordAlign (a : Word) : Word := a &&& 0xFFFFFFFC#32

/-- The big-endian word of four bytes (20_memory.md R103). -/
def wordOfBytes (b0 b1 b2 b3 : Byte) : Word :=
  place b0 0 ||| place b1 8 ||| place b2 16 ||| place b3 24

/-- The doubleword of two words, the first one high (10_state.md R33). -/
def dwordOf (hi lo : Word) : Dword := (hi.setWidth 64 <<< 32) ||| lo.setWidth 64

/-- The high-order word of a doubleword (10_state.md R33). -/
def dwordHi (v : Dword) : Word := v.extractLsb' 32 32

/-- The low-order word of a doubleword (10_state.md R33). -/
def dwordLo (v : Dword) : Word := v.extractLsb' 0 32

end Sys2Proof
end

