-- ==== Sys2Proof/Decode.lean ====
section
/-! DEFINITION. Decoding of an instruction word (30_encoding.md R143 steps 1 and 2, R161 to R167) and, after it, the encoder.
The decoder is total, ignores reserved bits (R142), takes the parameter `FCB_ENC` (R160), and does not depend on the variant: gating and
the invalid forms (R171, R178) are checked by the meanings, which raise the illegal-instruction exception. -/

namespace Sys2Proof

/-- Why a word is no instruction; every reason raises the illegal-instruction exception (30_encoding.md R176). -/
inductive DecodeError where
  /-- No opcode row matches (R176 a, b). -/
  | unassigned
  /-- A register field names no GPR (R176 c; 10_state.md R31). -/
  | undefinedGpr (n : BitVec 5)
  /-- A doubleword register field names no VDR (R176 c; 10_state.md R33). -/
  | undefinedVdr (n : BitVec 5)
  deriving DecidableEq, Repr

/-- The GPR of a register number, if it is defined (10_state.md R30). -/
def Gpr.ofNum (n : BitVec 5) : Option Gpr :=
  match n.toNat with
  | 0 => some .r0
  | 1 => some .r1
  | 2 => some .r2
  | 3 => some .r3
  | 4 => some .r4
  | 5 => some .r5
  | 6 => some .r6
  | 7 => some .r7
  | 8 => some .r8
  | 9 => some .r9
  | 10 => some .r10
  | 13 => some .r13
  | 28 => some .r28
  | 29 => some .r29
  | 30 => some .r30
  | 31 => some .r31
  | _ => none

/-- The VDR of a register number, if it is defined (10_state.md R33). -/
def Vdr.ofNum (n : BitVec 5) : Option Vdr :=
  match n.toNat with
  | 0 => some .d0
  | 1 => some .d1
  | 2 => some .d2
  | 3 => some .d3
  | 4 => some .d4
  | 5 => some .d5
  | 6 => some .d6
  | 7 => some .d7
  | 8 => some .d8
  | 9 => some .d9
  | 28 => some .d28
  | 29 => some .d29
  | 30 => some .d30
  | 31 => some .d31
  | _ => none

/-- The GPR designated by the five bits that start at bit `a` (10_state.md R31). -/
def gprAt (w : Word) (a : Nat) : Except DecodeError Gpr :=
  match Gpr.ofNum (bits w a 5) with
  | some g => .ok g
  | none => .error (.undefinedGpr (bits w a 5))

/-- The VDR designated by the five bits that start at bit `a` (10_state.md R33). -/
def vdrAt (w : Word) (a : Nat) : Except DecodeError Vdr :=
  match Vdr.ofNum (bits w a 5) with
  | some d => .ok d
  | none => .error (.undefinedVdr (bits w a 5))

/-- An arithmetic instruction with two register operands and OE, Rc (XO-form, 30_encoding.md R150). -/
def decodeXo3 (mk : Gpr → Gpr → Gpr → Bool → Bool → Instr) (w : Word) : Except DecodeError Instr := do
  return mk (← gprAt w 6) (← gprAt w 11) (← gprAt w 16) (bitAt w 21) (bitAt w 31)

/-- An arithmetic instruction with one register operand; bits 16:20 are reserved (XO-form, 30_encoding.md R150). -/
def decodeXo2 (mk : Gpr → Gpr → Bool → Bool → Instr) (w : Word) : Except DecodeError Instr := do
  return mk (← gprAt w 6) (← gprAt w 11) (bitAt w 21) (bitAt w 31)

/-- RT or RS, RA and a 16-bit immediate (D-form, 30_encoding.md R147). -/
def decodeD (mk : Gpr → Gpr → BitVec 16 → Instr) (w : Word) : Except DecodeError Instr := do
  return mk (← gprAt w 6) (← gprAt w 11) (bits w 16 16)

/-- A logical immediate: the target RA is bits 11:15, the source RS bits 6:10 (D-form, 30_encoding.md R147). -/
def decodeDLogical (mk : Gpr → Gpr → BitVec 16 → Instr) (w : Word) : Except DecodeError Instr := do
  return mk (← gprAt w 11) (← gprAt w 6) (bits w 16 16)

/-- A VDR, RA and a displacement (D-form, 46_load_store.md R353). -/
def decodeDVdr (mk : Vdr → Gpr → BitVec 16 → Instr) (w : Word) : Except DecodeError Instr := do
  return mk (← vdrAt w 6) (← gprAt w 11) (bits w 16 16)

/-- RT or RS, RA, RB; bit 31 is reserved (X-form, 30_encoding.md R149). -/
def decodeX3 (mk : Gpr → Gpr → Gpr → Instr) (w : Word) : Except DecodeError Instr := do
  return mk (← gprAt w 6) (← gprAt w 11) (← gprAt w 16)

/-- A VDR, RA, RB; bit 31 is reserved (X-form, 46_load_store.md R353). -/
def decodeX3Vdr (mk : Vdr → Gpr → Gpr → Instr) (w : Word) : Except DecodeError Instr := do
  return mk (← vdrAt w 6) (← gprAt w 11) (← gprAt w 16)

/-- A multiply of primary opcode 4: RT, RA, RB, Rc (X-form, 30_encoding.md R156). -/
def decodeX3Rc (mk : Gpr → Gpr → Gpr → Bool → Instr) (w : Word) : Except DecodeError Instr := do
  return mk (← gprAt w 6) (← gprAt w 11) (← gprAt w 16) (bitAt w 31)

/-- A logical or shift instruction: the target RA is bits 11:15, RS bits 6:10 (X-form, 30_encoding.md R149). -/
def decodeLogical (mk : Gpr → Gpr → Gpr → Bool → Instr) (w : Word) : Except DecodeError Instr := do
  return mk (← gprAt w 11) (← gprAt w 6) (← gprAt w 16) (bitAt w 31)

/-- A logical instruction without RB; bits 16:20 are reserved (X-form, 30_encoding.md R149). -/
def decodeLogical2 (mk : Gpr → Gpr → Bool → Instr) (w : Word) : Except DecodeError Instr := do
  return mk (← gprAt w 11) (← gprAt w 6) (bitAt w 31)

/-- A rotate with an immediate amount (M-form, 30_encoding.md R154). -/
def decodeM (mk : Gpr → Gpr → BitVec 5 → BitVec 5 → BitVec 5 → Bool → Instr) (w : Word) : Except DecodeError Instr := do
  return mk (← gprAt w 11) (← gprAt w 6) (bits w 16 5) (bits w 21 5) (bits w 26 5) (bitAt w 31)

/-- `rlwnm` (M-form with RB, 30_encoding.md R154). -/
def decodeMReg (mk : Gpr → Gpr → Gpr → BitVec 5 → BitVec 5 → Bool → Instr) (w : Word) : Except DecodeError Instr := do
  return mk (← gprAt w 11) (← gprAt w 6) (← gprAt w 16) (bits w 21 5) (bits w 26 5) (bitAt w 31)

/-- A 64-bit rotate: the amount is sh5 then sh0:4, the mask bound its bit 5 then its bits 0:4 (MD-form, 30_encoding.md R155). -/
def decodeMd (mk : Vdr → Vdr → BitVec 6 → BitVec 6 → Bool → Instr) (w : Word) : Except DecodeError Instr := do
  return mk (← vdrAt w 11) (← vdrAt w 6) (bits w 30 1 ++ bits w 16 5) (bits w 26 1 ++ bits w 21 5) (bitAt w 31)

/-- A 64-bit shift (X-form, 42_rotate_shift.md R279). -/
def decodeShiftVdr (mk : Vdr → Vdr → Gpr → Bool → Instr) (w : Word) : Except DecodeError Instr := do
  return mk (← vdrAt w 11) (← vdrAt w 6) (← gprAt w 16) (bitAt w 31)

/-- RA and RB; bits 6:10 and 31 are reserved (X-form, 30_encoding.md R149). -/
def decodeRaRb (mk : Gpr → Gpr → Instr) (w : Word) : Except DecodeError Instr := do
  return mk (← gprAt w 11) (← gprAt w 16)

/-- A register in bits 6:10 alone. -/
def decodeR (mk : Gpr → Instr) (w : Word) : Except DecodeError Instr := do
  return mk (← gprAt w 6)

/-- The instruction where a defined field has its value, else no instruction (30_encoding.md R142). -/
def requiring (ok : Bool) (r : Except DecodeError Instr) : Except DecodeError Instr :=
  if ok then r else .error .unassigned

/-- BF and L of a compare: bits 6:8 and bit 10 are 0, bit 9 is reserved (30_encoding.md R148). -/
def compareFieldsZero (w : Word) : Bool := bits w 6 3 = 0 && !bitAt w 10

/-- A compare of two registers (30_encoding.md R149). -/
def decodeCmp (mk : Gpr → Gpr → Instr) (w : Word) : Except DecodeError Instr :=
  requiring (compareFieldsZero w) (decodeRaRb mk w)

/-- A compare with an immediate (30_encoding.md R148). -/
def decodeCmpImm (mk : Gpr → BitVec 16 → Instr) (w : Word) : Except DecodeError Instr :=
  requiring (compareFieldsZero w) (do return mk (← gprAt w 11) (bits w 16 16))

/-- A fused compare-branch with two registers (30_encoding.md R157). -/
def decodeFcbReg (mk : Gpr → Gpr → BitVec 10 → Bool → Instr) (w : Word) : Except DecodeError Instr := do
  return mk (← gprAt w 11) (← gprAt w 16) (bits w 21 10) (bitAt w 31)

/-- A fused compare-branch with a 5-bit immediate (30_encoding.md R157). -/
def decodeFcbImm (mk : Gpr → BitVec 5 → BitVec 10 → Bool → Instr) (w : Word) : Except DecodeError Instr := do
  return mk (← gprAt w 11) (bits w 16 5) (bits w 21 10) (bitAt w 31)

/-- The fused bit forms: BBXO selects (30_encoding.md R157, R160). -/
def decodeFusedBit (e : FcbCodes) (w : Word) : Except DecodeError Instr :=
  let bbxo := bits w 9 2
  if bbxo = e.bnbwi then decodeFcbImm (.bnbwi (bitAt w 8)) w
  else if bbxo = e.bnbw then decodeFcbReg (.bnbw (bitAt w 8)) w
  else if bbxo = e.clrbwibc then decodeFcbImm (.clrbwibc (bitAt w 8)) w
  else requiring (bbxo = e.clrbwbc) (decodeFcbReg (.clrbwbc (bitAt w 8)) w)

/-- Primary opcode 1: the fused compare-branch instructions, by the instance's `FCB_ENC` (30_encoding.md R157, R160; log 12). -/
def decodeFused (e : FcbCodes) (w : Word) : Except DecodeError Instr :=
  let fcbxo := bits w 6 2
  if fcbxo = e.cmpwbc then decodeFcbReg (.cmpwbc (bitAt w 8) (bits w 9 2)) w
  else if fcbxo = e.cmplwbc then decodeFcbReg (.cmplwbc (bitAt w 8) (bits w 9 2)) w
  else if fcbxo = e.cmpwibc then decodeFcbImm (.cmpwibc (bitAt w 8) (bits w 9 2)) w
  else requiring (fcbxo = e.bitForm) (decodeFusedBit e w)

/-- Primary opcode 4 (30_encoding.md R165). -/
def decodeOp4 (w : Word) : Except DecodeError Instr :=
  match (bits w 21 10).toNat with
  | 392 => decodeX3Rc .mullhwu w
  | 424 => decodeX3Rc .mullhw w
  | _ => .error .unassigned

/-- Primary opcode 19 (30_encoding.md R151, R163). -/
def decodeOp19 (w : Word) : Except DecodeError Instr :=
  match (bits w 21 10).toNat with
  | 16 => .ok (.bclr (bits w 6 5) (bits w 11 5) (bitAt w 31))
  | 50 => .ok .rfi
  | 528 => .ok (.bcctr (bits w 6 5) (bits w 11 5) (bitAt w 31))
  | _ => .error .unassigned

/-- Primary opcode 30 (30_encoding.md R155, R164). -/
def decodeOp30 (w : Word) : Except DecodeError Instr :=
  match (bits w 27 3).toNat with
  | 0 => decodeMd .rldicl w
  | 1 => decodeMd .rldicr w
  | 3 => decodeMd .rldimi w
  | _ => .error .unassigned

/-- Primary opcodes 58 and 62: the stack instructions (DD-form, XO = 3, CX selects; 30_encoding.md R158). -/
def decodeDd (small context : Gpr → Gpr → BitVec 13 → Instr) (w : Word) : Except DecodeError Instr :=
  requiring (bits w 30 2 = 3)
    (do return (if bitAt w 29 then context else small) (← gprAt w 6) (← gprAt w 11) (bits w 16 13))

/-- The SPR number: bits 16:20 then bits 11:15 (49_system.md R445). -/
def sprNumber (w : Word) : BitVec 10 := bits w 16 5 ++ bits w 11 5

/-- Primary opcode 31 (30_encoding.md R162); an XO-form opcode stands at its value and, with OE, at that plus 512. -/
def decodeOp31 (w : Word) : Except DecodeError Instr :=
  match (bits w 21 10).toNat with
  | 0 => decodeCmp .cmpw w
  | 4 => .ok (.tw (bits w 6 5) (bits w 11 5) (bits w 16 5) (bitAt w 31))
  | 8 | 520 => decodeXo3 .subfc w
  | 10 | 522 => decodeXo3 .addc w
  | 17 => decodeX3Vdr .lvdx w
  | 19 => decodeR .mfcr w
  | 23 => decodeX3 .lwzx w
  | 24 => decodeLogical .slw w
  | 26 => decodeLogical2 .cntlzw w
  | 28 => decodeLogical .and w
  | 32 => decodeCmp .cmplw w
  | 40 | 552 => decodeXo3 .subf w
  | 59 => decodeShiftVdr .slvd w
  | 60 => decodeLogical .andc w
  | 83 => decodeR .mfmsr w
  | 86 => decodeRaRb .dcbf w
  | 87 => decodeX3 .lbzx w
  | 104 | 616 => decodeXo2 .neg w
  | 124 => decodeLogical .nor w
  | 131 => decodeR .wrtee w
  | 136 | 648 => decodeXo3 .subfe w
  | 138 | 650 => decodeXo3 .adde w
  | 144 => requiring (bits w 11 9 = 128) (decodeR .mtcrf w)
  | 145 => decodeX3Vdr .stvdx w
  | 146 => decodeR .mtmsr w
  | 151 => decodeX3 .stwx w
  | 163 => .ok (.wrteei (bitAt w 16))
  | 200 | 712 => decodeXo2 .subfze w
  | 202 | 714 => decodeXo2 .addze w
  | 215 => decodeX3 .stbx w
  | 232 | 744 => decodeXo2 .subfme w
  | 234 | 746 => decodeXo2 .addme w
  | 235 | 747 => decodeXo3 .mullw w
  | 266 | 778 => decodeXo3 .add w
  | 278 => decodeRaRb .dcbt w
  | 279 => decodeX3 .lhzx w
  | 284 => decodeLogical .eqv w
  | 316 => decodeLogical .xor w
  | 339 => decodeR (fun rt => .mfspr rt (sprNumber w)) w
  | 406 => decodeX3 .dcbq w
  | 407 => decodeX3 .sthx w
  | 412 => decodeLogical .orc w
  | 444 => decodeLogical .or w
  | 467 => decodeR (fun rs => .mtspr (sprNumber w) rs) w
  | 470 => decodeRaRb .dcbi w
  | 476 => decodeLogical .nand w
  | 536 => decodeLogical .srw w
  | 571 => decodeShiftVdr .srvd w
  | 598 => .ok .sync
  | 792 => decodeLogical .sraw w
  | 824 => do return .srawi (← gprAt w 11) (← gprAt w 6) (bits w 16 5) (bitAt w 31)
  | 922 => decodeLogical2 .extsh w
  | 954 => decodeLogical2 .extsb w
  | 1014 => decodeRaRb .dcbz w
  | _ => .error .unassigned

/-- The instruction of a word, of either variant, by the instance's `FCB_ENC` (30_encoding.md R143 steps 1 and 2, R160, R161). -/
def decode (e : FcbCodes) (w : Word) : Except DecodeError Instr :=
  match (bits w 0 6).toNat with
  | 1 => decodeFused e w
  | 4 => decodeOp4 w
  | 5 => decodeDVdr .lvd w
  | 6 => decodeDVdr .stvd w
  | 7 => decodeD .mulli w
  | 8 => decodeD .subfic w
  | 9 => decodeDVdr .lvdu w
  | 10 => decodeCmpImm .cmplwi w
  | 11 => decodeCmpImm .cmpwi w
  | 12 => decodeD .addic w
  | 13 => decodeD .addicDot w
  | 14 => decodeD .addi w
  | 15 => decodeD .addis w
  | 16 => .ok (.bc (bits w 6 5) (bits w 11 5) (bits w 16 14) (bitAt w 30) (bitAt w 31))
  | 18 => .ok (.b (bits w 6 24) (bitAt w 30) (bitAt w 31))
  | 19 => decodeOp19 w
  | 20 => decodeM .rlwimi w
  | 21 => decodeM .rlwinm w
  | 22 => decodeDVdr .stvdu w
  | 23 => decodeMReg .rlwnm w
  | 24 => decodeDLogical .ori w
  | 25 => decodeDLogical .oris w
  | 26 => decodeDLogical .xori w
  | 27 => decodeDLogical .xoris w
  | 28 => decodeDLogical .andiDot w
  | 29 => decodeDLogical .andisDot w
  | 30 => decodeOp30 w
  | 31 => decodeOp31 w
  | 32 => decodeD .lwz w
  | 33 => decodeD .lwzu w
  | 34 => decodeD .lbz w
  | 35 => decodeD .lbzu w
  | 36 => decodeD .stw w
  | 37 => decodeD .stwu w
  | 38 => decodeD .stb w
  | 39 => decodeD .stbu w
  | 40 => decodeD .lhz w
  | 41 => decodeD .lhzu w
  | 44 => decodeD .sth w
  | 45 => decodeD .sthu w
  | 58 => decodeDd .lsku .lcxu w
  | 62 => decodeDd .stsku .stcxu w
  | _ => .error .unassigned

/-- The instruction of the four bytes at ascending addresses (30_encoding.md R140: big-endian). -/
def decodeBytes (e : FcbCodes) (b0 b1 b2 b3 : Byte) : Except DecodeError Instr := decode e (wordOfBytes b0 b1 b2 b3)

/-- The instruction the decoder reads from the table's bits `w`, stored as four big-endian bytes, with the table's own `FCB_ENC`, the
placeholder (30_encoding.md R160). -/
def decodeTableWord (_nbits w : Nat) : Option Instr :=
  let v : Word := BitVec.ofNat 32 w
  match decodeBytes .placeholder (bits v 0 8) (bits v 8 8) (bits v 16 8) (bits v 24 8) with
  | .ok i => some i
  | .error _ => none

/-! The encoder: the word of an instruction, every reserved bit 0 (30_encoding.md R144 to R158). -/

/-- XO-form with primary opcode 31 (30_encoding.md R150). -/
def xoForm (xo : BitVec 9) (rt ra rb : BitVec 5) (oe rc : Bool) : Word :=
  place 31#6 0 ||| place rt 6 ||| place ra 11 ||| place rb 16 ||| place (ofBool oe) 21 ||| place xo 22 ||| place (ofBool rc) 31

/-- D-form (30_encoding.md R147). -/
def dForm (op : BitVec 6) (rt ra : BitVec 5) (imm : BitVec 16) : Word :=
  place op 0 ||| place rt 6 ||| place ra 11 ||| place imm 16

/-- X-form and XL-form (30_encoding.md R149, R151). -/
def xForm (op : BitVec 6) (xo : BitVec 10) (rt ra rb : BitVec 5) (rc : Bool) : Word :=
  place op 0 ||| place rt 6 ||| place ra 11 ||| place rb 16 ||| place xo 21 ||| place (ofBool rc) 31

/-- M-form (30_encoding.md R154). -/
def mForm (op : BitVec 6) (rs ra sh mb me : BitVec 5) (rc : Bool) : Word :=
  place op 0 ||| place rs 6 ||| place ra 11 ||| place sh 16 ||| place mb 21 ||| place me 26 ||| place (ofBool rc) 31

/-- MD-form with primary opcode 30 (30_encoding.md R155). -/
def mdForm (xo : BitVec 3) (ds da : BitVec 5) (sh mb : BitVec 6) (rc : Bool) : Word :=
  place 30#6 0 ||| place ds 6 ||| place da 11 ||| place (sh.extractLsb' 0 5) 16 ||| place (mb.extractLsb' 0 5) 21 |||
    place (mb.extractLsb' 5 1) 26 ||| place xo 27 ||| place (sh.extractLsb' 5 1) 30 ||| place (ofBool rc) 31

/-- I-form (30_encoding.md R145). -/
def iForm (li : BitVec 24) (aa lk : Bool) : Word :=
  place 18#6 0 ||| place li 6 ||| place (ofBool aa) 30 ||| place (ofBool lk) 31

/-- B-form (30_encoding.md R146). -/
def bForm (bo bi : BitVec 5) (bd : BitVec 14) (aa lk : Bool) : Word :=
  place 16#6 0 ||| place bo 6 ||| place bi 11 ||| place bd 16 ||| place (ofBool aa) 30 ||| place (ofBool lk) 31

/-- FCB format (30_encoding.md R157). -/
def fcbForm (fcbxo : BitVec 2) (px : Bool) (bix : BitVec 2) (ra rb : BitVec 5) (bdx : BitVec 10) (lk : Bool) : Word :=
  place 1#6 0 ||| place fcbxo 6 ||| place (ofBool px) 8 ||| place bix 9 ||| place ra 11 ||| place rb 16 ||| place bdx 21 |||
    place (ofBool lk) 31

/-- DD format, XO = 3 (30_encoding.md R158). -/
def ddForm (op : BitVec 6) (rt ra : BitVec 5) (dd : BitVec 13) (cx : Bool) : Word :=
  place op 0 ||| place rt 6 ||| place ra 11 ||| place dd 16 ||| place (ofBool cx) 29 ||| place 3#2 30

/-- XFX-form of the SPR moves: the number's halves swapped (30_encoding.md R152). -/
def xfxForm (xo : BitVec 10) (rt : BitVec 5) (sprn : BitVec 10) : Word :=
  place 31#6 0 ||| place rt 6 ||| place (sprn.extractLsb' 0 5) 11 ||| place (sprn.extractLsb' 5 5) 16 ||| place xo 21

/-- The word of an instruction by an instance's `FCB_ENC` (30_encoding.md R160 to R167). -/
def encode (e : FcbCodes) : Instr → Word
  | .add rt ra rb oe rc => xoForm 266 rt.num ra.num rb.num oe rc
  | .addc rt ra rb oe rc => xoForm 10 rt.num ra.num rb.num oe rc
  | .adde rt ra rb oe rc => xoForm 138 rt.num ra.num rb.num oe rc
  | .addi rt ra si => dForm 14 rt.num ra.num si
  | .addic rt ra si => dForm 12 rt.num ra.num si
  | .addicDot rt ra si => dForm 13 rt.num ra.num si
  | .addis rt ra si => dForm 15 rt.num ra.num si
  | .addme rt ra oe rc => xoForm 234 rt.num ra.num 0 oe rc
  | .addze rt ra oe rc => xoForm 202 rt.num ra.num 0 oe rc
  | .subf rt ra rb oe rc => xoForm 40 rt.num ra.num rb.num oe rc
  | .subfc rt ra rb oe rc => xoForm 8 rt.num ra.num rb.num oe rc
  | .subfe rt ra rb oe rc => xoForm 136 rt.num ra.num rb.num oe rc
  | .subfic rt ra si => dForm 8 rt.num ra.num si
  | .subfme rt ra oe rc => xoForm 232 rt.num ra.num 0 oe rc
  | .subfze rt ra oe rc => xoForm 200 rt.num ra.num 0 oe rc
  | .neg rt ra oe rc => xoForm 104 rt.num ra.num 0 oe rc
  | .mulli rt ra si => dForm 7 rt.num ra.num si
  | .mullw rt ra rb oe rc => xoForm 235 rt.num ra.num rb.num oe rc
  | .mullhw rt ra rb rc => xForm 4 424 rt.num ra.num rb.num rc
  | .mullhwu rt ra rb rc => xForm 4 392 rt.num ra.num rb.num rc
  | .and ra rs rb rc => xForm 31 28 rs.num ra.num rb.num rc
  | .andc ra rs rb rc => xForm 31 60 rs.num ra.num rb.num rc
  | .or ra rs rb rc => xForm 31 444 rs.num ra.num rb.num rc
  | .orc ra rs rb rc => xForm 31 412 rs.num ra.num rb.num rc
  | .xor ra rs rb rc => xForm 31 316 rs.num ra.num rb.num rc
  | .nand ra rs rb rc => xForm 31 476 rs.num ra.num rb.num rc
  | .nor ra rs rb rc => xForm 31 124 rs.num ra.num rb.num rc
  | .eqv ra rs rb rc => xForm 31 284 rs.num ra.num rb.num rc
  | .andiDot ra rs ui => dForm 28 rs.num ra.num ui
  | .andisDot ra rs ui => dForm 29 rs.num ra.num ui
  | .ori ra rs ui => dForm 24 rs.num ra.num ui
  | .oris ra rs ui => dForm 25 rs.num ra.num ui
  | .xori ra rs ui => dForm 26 rs.num ra.num ui
  | .xoris ra rs ui => dForm 27 rs.num ra.num ui
  | .extsb ra rs rc => xForm 31 954 rs.num ra.num 0 rc
  | .extsh ra rs rc => xForm 31 922 rs.num ra.num 0 rc
  | .cntlzw ra rs rc => xForm 31 26 rs.num ra.num 0 rc
  | .rlwimi ra rs sh mb me rc => mForm 20 rs.num ra.num sh mb me rc
  | .rlwinm ra rs sh mb me rc => mForm 21 rs.num ra.num sh mb me rc
  | .rlwnm ra rs rb mb me rc => mForm 23 rs.num ra.num rb.num mb me rc
  | .slw ra rs rb rc => xForm 31 24 rs.num ra.num rb.num rc
  | .srw ra rs rb rc => xForm 31 536 rs.num ra.num rb.num rc
  | .sraw ra rs rb rc => xForm 31 792 rs.num ra.num rb.num rc
  | .srawi ra rs sh rc => xForm 31 824 rs.num ra.num sh rc
  | .rldicl da ds sh mb rc => mdForm 0 ds.num da.num sh mb rc
  | .rldicr da ds sh me rc => mdForm 1 ds.num da.num sh me rc
  | .rldimi da ds sh mb rc => mdForm 3 ds.num da.num sh mb rc
  | .slvd da ds rb rc => xForm 31 59 ds.num da.num rb.num rc
  | .srvd da ds rb rc => xForm 31 571 ds.num da.num rb.num rc
  | .cmpw ra rb => xForm 31 0 0 ra.num rb.num false
  | .cmplw ra rb => xForm 31 32 0 ra.num rb.num false
  | .cmpwi ra si => dForm 11 0 ra.num si
  | .cmplwi ra ui => dForm 10 0 ra.num ui
  | .b li aa lk => iForm li aa lk
  | .bc bo bi bd aa lk => bForm bo bi bd aa lk
  | .bcctr bo bi lk => xForm 19 528 bo bi 0 lk
  | .bclr bo bi lk => xForm 19 16 bo bi 0 lk
  | .cmpwbc px bix ra rb bdx lk => fcbForm e.cmpwbc px bix ra.num rb.num bdx lk
  | .cmplwbc px bix ra rb bdx lk => fcbForm e.cmplwbc px bix ra.num rb.num bdx lk
  | .cmpwibc px bix ra uix bdx lk => fcbForm e.cmpwibc px bix ra.num uix bdx lk
  | .bnbwi px ra bnx bdx lk => fcbForm e.bitForm px e.bnbwi ra.num bnx bdx lk
  | .bnbw px ra rb bdx lk => fcbForm e.bitForm px e.bnbw ra.num rb.num bdx lk
  | .clrbwibc px ra bnx bdx lk => fcbForm e.bitForm px e.clrbwibc ra.num bnx bdx lk
  | .clrbwbc px ra rb bdx lk => fcbForm e.bitForm px e.clrbwbc ra.num rb.num bdx lk
  | .lbz rt ra d => dForm 34 rt.num ra.num d
  | .lbzu rt ra d => dForm 35 rt.num ra.num d
  | .lbzx rt ra rb => xForm 31 87 rt.num ra.num rb.num false
  | .lhz rt ra d => dForm 40 rt.num ra.num d
  | .lhzu rt ra d => dForm 41 rt.num ra.num d
  | .lhzx rt ra rb => xForm 31 279 rt.num ra.num rb.num false
  | .lwz rt ra d => dForm 32 rt.num ra.num d
  | .lwzu rt ra d => dForm 33 rt.num ra.num d
  | .lwzx rt ra rb => xForm 31 23 rt.num ra.num rb.num false
  | .lvd dt ra d => dForm 5 dt.num ra.num d
  | .lvdu dt ra d => dForm 9 dt.num ra.num d
  | .lvdx dt ra rb => xForm 31 17 dt.num ra.num rb.num false
  | .stb rs ra d => dForm 38 rs.num ra.num d
  | .stbu rs ra d => dForm 39 rs.num ra.num d
  | .stbx rs ra rb => xForm 31 215 rs.num ra.num rb.num false
  | .sth rs ra d => dForm 44 rs.num ra.num d
  | .sthu rs ra d => dForm 45 rs.num ra.num d
  | .sthx rs ra rb => xForm 31 407 rs.num ra.num rb.num false
  | .stw rs ra d => dForm 36 rs.num ra.num d
  | .stwu rs ra d => dForm 37 rs.num ra.num d
  | .stwx rs ra rb => xForm 31 151 rs.num ra.num rb.num false
  | .stvd ds ra d => dForm 6 ds.num ra.num d
  | .stvdu ds ra d => dForm 22 ds.num ra.num d
  | .stvdx ds ra rb => xForm 31 145 ds.num ra.num rb.num false
  | .lsku rt ra dd => ddForm 58 rt.num ra.num dd false
  | .lcxu rt ra dd => ddForm 58 rt.num ra.num dd true
  | .stsku rs ra dd => ddForm 62 rs.num ra.num dd false
  | .stcxu rs ra dd => ddForm 62 rs.num ra.num dd true
  | .dcbf ra rb => xForm 31 86 0 ra.num rb.num false
  | .dcbi ra rb => xForm 31 470 0 ra.num rb.num false
  | .dcbt ra rb => xForm 31 278 0 ra.num rb.num false
  | .dcbz ra rb => xForm 31 1014 0 ra.num rb.num false
  | .dcbq rt ra rb => xForm 31 406 rt.num ra.num rb.num false
  | .sync => xForm 31 598 0 0 0 false
  | .mfcr rt => xForm 31 19 rt.num 0 0 false
  | .mtcrf rs => place 31#6 0 ||| place rs.num 6 ||| place 128#9 11 ||| place 144#10 21
  | .mfmsr rt => xForm 31 83 rt.num 0 0 false
  | .mtmsr rs => xForm 31 146 rs.num 0 0 false
  | .mfspr rt sprn => xfxForm 339 rt.num sprn
  | .mtspr sprn rs => xfxForm 467 rs.num sprn
  | .rfi => xForm 19 50 0 0 0 false
  | .tw cond ra rb tg => xForm 31 4 cond ra rb tg
  | .wrtee rs => xForm 31 131 rs.num 0 0 false
  | .wrteei b => place 31#6 0 ||| place (ofBool b) 16 ||| place 163#10 21

end Sys2Proof
end

