-- ==== Sys2Proof/Machine/State.lean ====
section
/-! DEFINITION. The machine's state as plain data (10_state.md), its reset values (10_state.md R77; 70_reset_and_hazards.md R706,
R708), and the reasons a step can stop. -/

namespace Sys2Proof.Machine

/-- The 16 general registers, 32 bits each (10_state.md R30). -/
structure Gprs where
  r0 : Word := 0
  r1 : Word := 0
  r2 : Word := 0
  r3 : Word := 0
  r4 : Word := 0
  r5 : Word := 0
  r6 : Word := 0
  r7 : Word := 0
  r8 : Word := 0
  r9 : Word := 0
  r10 : Word := 0
  r13 : Word := 0
  r28 : Word := 0
  r29 : Word := 0
  r30 : Word := 0
  r31 : Word := 0
  deriving DecidableEq, Repr

/-- CR0, the one implemented field of the condition register (10_state.md R40). -/
structure Cr0 where
  lt : Bool := false
  gt : Bool := false
  eq : Bool := false
  so : Bool := false
  deriving DecidableEq, Repr

/-- The three implemented bits of the XER (10_state.md R44). -/
structure Xer where
  so : Bool := false
  ov : Bool := false
  ca : Bool := false
  deriving DecidableEq, Repr

/-- The stored bits of the XSR (10_state.md R69); HS, SMS and the mirrors are computed. -/
structure Xsr where
  /-- HC, the halt condition (bits 1:3). -/
  hc : BitVec 3 := 0
  /-- HCP, halt condition present (bit 4). -/
  hcp : Bool := false
  /-- RIP, ramming in progress (bit 5). -/
  rip : Bool := false
  /-- SIP, single-step in progress (bit 6). -/
  sip : Bool := false
  /-- TRAP (bit 7). -/
  trap : Bool := false
  /-- IAC (bit 8). -/
  iac : Bool := false
  /-- RDAC (bit 12). -/
  rdac : Bool := false
  /-- WDAC (bit 13). -/
  wdac : Bool := false
  /-- TRH, timers run while halted (bit 15). -/
  trh : Bool := false
  /-- The value EP (bit 21) keeps while DBCR[HDFI] freezes it (61_timers.md R579). -/
  epHeld : Bool := false
  deriving DecidableEq, Repr

/-- The levels of the input signals (10_state.md R76). -/
structure Pins where
  extIntr : Bool := false
  haltReq : Bool := false
  hresetReq : Bool := false
  deriving DecidableEq, Repr

/-- The outputs pulsed during the last step (10_state.md R76; 62_debug_xir.md R641, R642). -/
structure Outputs where
  /-- Internal state error. -/
  error0 : Bool := false
  /-- External interface error. -/
  error1 : Bool := false
  /-- Forward progress error. -/
  error2 : Bool := false
  /-- Debug or code breakpoint. -/
  error3 : Bool := false
  /-- `watchdog_timeout`. -/
  watchdogTimeout : Bool := false
  deriving DecidableEq, Repr

/-- The two kinds of reset, which differ in the memory subsystem only (70_reset_and_hazards.md R700). -/
inductive ResetKind where
  | soft
  | hard
  deriving DecidableEq, Repr

/-- A reset whose interrupt is not taken yet (70_reset_and_hazards.md R702, R704, R705). -/
structure ResetState where
  kind : ResetKind
  /-- Whether `hreset_req` is a cause: this alone clears XSR[HCP] (R702). -/
  hreset : Bool
  /-- Whether the changes of R705 step 3 are done. -/
  applied : Bool
  deriving DecidableEq, Repr

/-- What the memory subsystem answers a data access (20_memory.md R101). -/
inductive DataReply where
  /-- Success. -/
  | ok
  /-- Data storage exception. -/
  | dsi
  /-- Alignment exception. -/
  | align
  /-- An error: data machine check. -/
  | error
  /-- The access itself succeeds, but a write-back of the modified cache line at an address, which it provoked, has an error
  (20_memory.md R126; 60_exceptions.md R514). -/
  | writeBack (line : Word)
  /-- A SIB access with a return code, 0 for success (20_memory.md R138). -/
  | sib (c : BitVec 3)
  deriving DecidableEq, Repr

/-- What the memory subsystem answers an instruction fetch (20_memory.md R101). -/
inductive FetchReply where
  /-- Success. -/
  | ok
  /-- Instruction storage exception. -/
  | isi
  /-- An error: instruction machine check. -/
  | error
  /-- A SIB fetch with a return code, 0 for success (20_memory.md R138). -/
  | sib (c : BitVec 3)
  deriving DecidableEq, Repr

/-- The answers to the accesses of each size (20_memory.md R101, R113). -/
structure Replies where
  byte : DataReply := .ok
  half : DataReply := .ok
  word : DataReply := .ok
  dword : DataReply := .ok
  deriving DecidableEq, Repr

/-- One answer to every size. -/
def Replies.every (r : DataReply) : Replies := ⟨r, r, r, r⟩

/-- The answers of a data cache to the cache operations, beside what their address's permission gives (20_memory.md R101;
48_cache_sync.md R420; log 28). -/
structure CacheReplies where
  /-- `dcbf` (48_cache_sync.md R421). -/
  flush : DataReply := .ok
  /-- `dcbi` (48_cache_sync.md R422). -/
  invalidate : DataReply := .ok
  /-- `dcbt`; the error of its line fill is the answer of a later load (48_cache_sync.md R424; 60_exceptions.md R513). -/
  touch : DataReply := .ok
  /-- `dcbz` (48_cache_sync.md R425). -/
  zero : DataReply := .ok
  deriving DecidableEq, Repr

/-- A region of the instance's memory map (92_eei_decisions.md D1, D2; log 6): `size` bytes from `base`, not wrapping. -/
structure Region where
  base : Word
  size : Nat
  fetch : FetchReply := .ok
  load : Replies := {}
  store : Replies := {}
  /-- Whether a data access at an address that is not a multiple of its size gets `align` (D2, `FlatRAM_strict`). -/
  strict : Bool := false
  /-- The answers to cache operations, where there is a data cache (48_cache_sync.md R420). -/
  cacheOps : CacheReplies := {}
  /-- Whether the region is cacheable, where there is a data cache (20_memory.md R101; 48_cache_sync.md R425). -/
  cacheable : Bool := false
  /-- Whether `dcbz` is emulated where the region is not cached; if not it gets `align` (20_memory.md R117; 48_cache_sync.md R425). -/
  dcbz : Bool := true
  deriving DecidableEq, Repr

/-- A query address of the data cache: what answers a `dcbq` there, and the word that it gives (20_memory.md R101; 48_cache_sync.md
R423). -/
structure Query where
  qa : Word
  reply : DataReply := .ok
  word : Word := 0
  deriving DecidableEq, Repr

/-- The memory subsystem beside its bytes (20_memory.md R101). -/
structure MemSys where
  /-- The regions; the first that holds an address answers for it. -/
  map : List Region
  /-- The valid query addresses of the data cache; the first that lists an address answers for it (48_cache_sync.md R423; log 28). -/
  queries : List Query := []
  /-- Whether a reset, of either kind, is acknowledged at once (70_reset_and_hazards.md R704; log 44). -/
  resetAck : Bool := true
  deriving DecidableEq, Repr

/-- The XIR pairs (62_debug_xir.md R601). -/
inductive XirPair where
  /-- Pair 0, XCR_CTR. -/
  | xcrCtr
  /-- Pair 1, XCR_SPRG0. -/
  | xcrSprg0
  /-- Pair 2, IR_SPRG0. -/
  | irSprg0
  /-- Pair 3, XSR_SPRG0. -/
  | xsrSprg0
  /-- Pair 4, IR_EDR. -/
  | irEdr
  /-- Pair 5, XSR_IAR. -/
  | xsrIar
  /-- Pair 6, SRR0_LR. -/
  | srr0Lr
  deriving DecidableEq, Repr

/-- The GPR pairs the XIR interface may show (62_debug_xir.md R608). -/
inductive XirGprs where
  | d0 | d2 | d4 | d6 | d8 | d28 | d30
  /-- VDRX: GPR10 and GPR13. -/
  | dx
  deriving DecidableEq, Repr

/-- The answer to an XIR access (62_debug_xir.md R600, R602). -/
inductive XirReply where
  /-- A read's datum. -/
  | data (v : Dword)
  /-- An accepted write. -/
  | accepted
  /-- The Invalid Access error. -/
  | invalidAccess
  deriving DecidableEq, Repr

/-- What the environment does in one step (92_eei_decisions.md section 3, D6, D8; log 9). -/
inductive Stimulus where
  /-- The core runs. -/
  | run
  /-- One core clock cycle of the timers, with the inputs `timer[0:3]` (bit 0 is `timer[0]`) and `dec_timer` (61_timers.md R572). -/
  | cycle (timer : BitVec 4) (decTimer : Bool)
  /-- `ext_intr` takes a level (60_exceptions.md R522). -/
  | extIntr (level : Bool)
  /-- `halt_req` takes a level (62_debug_xir.md R626). -/
  | haltReq (level : Bool)
  /-- `hreset_req` takes a level (70_reset_and_hazards.md R702). -/
  | hresetReq (level : Bool)
  /-- The external agent reads a pair (62_debug_xir.md R600). -/
  | xirRead (p : XirPair)
  /-- The external agent reads GPRs (62_debug_xir.md R608). -/
  | xirReadGprs (p : XirGprs)
  /-- The external agent writes a pair (62_debug_xir.md R600). -/
  | xirWrite (p : XirPair) (v : Dword)
  /-- The memory subsystem changes its map or its acknowledgement (20_memory.md R101). -/
  | memSys (m : MemSys)
  /-- Another agent writes a byte of memory (20_memory.md R135). -/
  | busWrite (a : Word) (b : Byte)
  /-- An unrecoverable hardware failure (62_debug_xir.md R620, HC = 111). -/
  | hardwareFailure
  deriving DecidableEq, Repr

/-- The machine's whole state. Every field is the spec's but `stimuli`, `reply` and `free`, which are the model's own (log 9, log 22). -/
structure State where
  /-- The instance's parameters; no step changes them (00_scope.md R9; log 1, log 2). -/
  cfg : Config := Config.default
  /-- GPR 0 to 10, 13, 28 to 31 (10_state.md R30). -/
  gpr : Gprs := {}
  /-- CR0 (10_state.md R40). -/
  cr0 : Cr0 := {}
  /-- XER (10_state.md R44). -/
  xer : Xer := {}
  /-- MSR (10_state.md R48). -/
  msr : Word := 0
  /-- IAR, the program counter (10_state.md R34). -/
  iar : Word := 0
  /-- IR (10_state.md R37). -/
  ir : Word := 0
  /-- LR (10_state.md R54). -/
  lr : Word := 0
  /-- CTR (10_state.md R53). -/
  ctr : Word := 0
  /-- DEC (10_state.md R57). -/
  dec : Word := 0
  /-- SRR0 (10_state.md R64). -/
  srr0 : Word := 0
  /-- SRR1 (10_state.md R65). -/
  srr1 : Word := 0
  /-- EDR (10_state.md R58). -/
  edr : Word := 0
  /-- ISR without its computed bit EP (10_state.md R59). -/
  isr : Word := 0
  /-- SPRG0 (10_state.md R63). -/
  sprg0 : Word := 0
  /-- DBCR without its write-only field RST (10_state.md R56). -/
  dbcr : Word := 0
  /-- DACR (10_state.md R55). -/
  dacr : Word := 0
  /-- TSR (10_state.md R67). -/
  tsr : Word := 0
  /-- TCR (10_state.md R66). -/
  tcr : Word := 0
  /-- XSR (10_state.md R69). -/
  xsr : Xsr := {}
  /-- Input levels (10_state.md R76). -/
  pins : Pins := {}
  /-- Outputs pulsed in the last step (62_debug_xir.md R641, R642). -/
  out : Outputs := {}
  /-- A reset in progress (10_state.md R75; 70_reset_and_hazards.md R705). -/
  resetting : Option ResetState := none
  /-- Addresses of imprecise store errors not reported yet, oldest first (10_state.md R75; 20_memory.md R125). -/
  pending : List Word := []
  /-- Memory bytes, in the canonical form of `Memory.wf` (Machine/Ops.lean). -/
  mem : List Host.Cell := []
  /-- The memory subsystem (20_memory.md R101). -/
  sys : MemSys
  /-- What the environment does next; where it is empty the core runs (log 9). -/
  stimuli : List Stimulus := []
  /-- The answer of the last XIR access (log 9). -/
  reply : Option XirReply := none
  /-- The counter of free values (log 22). -/
  free : Nat := 0
  deriving DecidableEq, Repr

/-- The reasons a step can end in a fault. There are none: every exception of the spec is taken as a next state, every address exists,
and every failing access has its exception (60_exceptions.md R500 to R530). -/
inductive Fault where
  deriving DecidableEq, Repr

/-- The reasons an instruction can be refused. -/
inductive Refusal where
  /-- Raised by an arm of `exec` whose instruction has no meaning yet; safe, because nothing is claimed of it. -/
  | notModelled (mnemonic : String)
  deriving DecidableEq, Repr

/-- The map of the closed model at reset: one region of ordinary memory over the whole space (92_eei_decisions.md D1, D2; log 6). -/
def flatRam : MemSys where
  map := [{ base := 0, size := 0x100000000 }]

/-- The machine right after reset: the power-on state (`State.powerOn`) after one reset by `hreset_req` (70_reset_and_hazards.md R702,
R706; log 3). DBCR and TCR[WRC] are 0, SRR0 and SRR1 hold the power-on IAR and MSR, MSR is 0, HCP is 0 and the IAR is IVPR[0:22] ||
x'040'. -/
def State.reset : State where
  iar := 0x40
  sys := flatRam

end Sys2Proof.Machine
end

