-- ==== Sys2Proof/Machine/Ops.lean ====
section
/-! DEFINITION. The named operations over memory, registers, the status bits and the memory interface, and taking an exception, an
interrupt, a debug halt and a reset (10_state.md, 20_memory.md, 60_exceptions.md, 62_debug_xir.md, 70_reset_and_hazards.md). -/

namespace Sys2Proof.Machine

/-! ### Memory bytes -/

/-- What a byte that nothing has written reads as (log 5). -/
def Memory.unlisted : Byte := 0

/-- The byte at an address. -/
def Memory.read (m : List Host.Cell) (a : Nat) : Byte :=
  match m with
  | [] => Memory.unlisted
  | (k, b) :: t => if k = a then b else Memory.read t a

/-- Memory with one byte written, in canonical form. -/
def Memory.write (m : List Host.Cell) (a : Nat) (b : Byte) : List Host.Cell :=
  match m with
  | [] => if b = Memory.unlisted then [] else [(a, b)]
  | (k, c) :: t =>
    if a < k then (if b = Memory.unlisted then (k, c) :: t else (a, b) :: (k, c) :: t)
    else if a = k then (if b = Memory.unlisted then t else (a, b) :: t)
    else (k, c) :: Memory.write t a b

/-- The canonical form from an address on: addresses strictly rising and below 2^32, no byte that reads as an unlisted one. -/
def Memory.wfFrom (lo : Nat) : List Host.Cell → Bool
  | [] => true
  | (k, b) :: t => decide (lo ≤ k) && decide (k < 2 ^ 32) && decide (b ≠ Memory.unlisted) && Memory.wfFrom (k + 1) t

/-- The canonical form of memory. -/
def Memory.wf (m : List Host.Cell) : Bool := Memory.wfFrom 0 m

/-- The byte at a 32-bit address (20_memory.md R100). -/
def readByte (m : List Host.Cell) (a : Word) : Byte := Memory.read m a.toNat

/-- Memory with the byte at a 32-bit address written. -/
def writeByte (m : List Host.Cell) (a : Word) (b : Byte) : List Host.Cell := Memory.write m a.toNat b

/-- The big-endian word at an address, of any alignment (20_memory.md R103). -/
def readWord (m : List Host.Cell) (a : Word) : Word :=
  wordOfBytes (readByte m a) (readByte m (a + 1)) (readByte m (a + 2)) (readByte m (a + 3))

/-- Memory with the big-endian word at an address written (20_memory.md R103). -/
def writeWord (m : List Host.Cell) (a : Word) (v : Word) : List Host.Cell :=
  writeByte (writeByte (writeByte (writeByte m a (bits v 0 8)) (a + 1) (bits v 8 8)) (a + 2) (bits v 16 8)) (a + 3) (bits v 24 8)

/-- The sizes of an access (20_memory.md R103). -/
inductive Width where
  | byte
  | half
  | word
  | dword
  deriving DecidableEq, Repr

/-- The size in bytes (20_memory.md R103). -/
def Width.bytes : Width → Nat
  | .byte => 1
  | .half => 2
  | .word => 4
  | .dword => 8

/-- A value of the size, zero-extended (46_load_store.md R391). -/
def Width.truncate (w : Width) (v : Dword) : Dword :=
  match w with
  | .byte => (v.setWidth 8).setWidth 64
  | .half => (v.setWidth 16).setWidth 64
  | .word => (v.setWidth 32).setWidth 64
  | .dword => v

/-- The value of a size at an address, big-endian and zero-extended (20_memory.md R103, R110). -/
def readMem (w : Width) (m : List Host.Cell) (a : Word) : Dword :=
  match w with
  | .byte => (readByte m a).setWidth 64
  | .half => (wordOfBytes 0 0 (readByte m a) (readByte m (a + 1))).setWidth 64
  | .word => (readWord m a).setWidth 64
  | .dword => dwordOf (readWord m a) (readWord m (a + 4))

/-- Memory with the low bytes of `v` written big-endian at an address (20_memory.md R103, R111). -/
def writeMem (w : Width) (m : List Host.Cell) (a : Word) (v : Dword) : List Host.Cell :=
  match w with
  | .byte => writeByte m a (v.setWidth 8)
  | .half => writeByte (writeByte m a (bits (dwordLo v) 16 8)) (a + 1) (bits (dwordLo v) 24 8)
  | .word => writeWord m a (dwordLo v)
  | .dword => writeWord (writeWord m a (dwordHi v)) (a + 4) (dwordLo v)

/-- Memory with `n` bytes from an address on set to 0 (48_cache_sync.md R425). -/
def zeroBytes (m : List Host.Cell) (a : Word) : Nat → List Host.Cell
  | 0 => m
  | n + 1 => writeByte (zeroBytes m a n) (a + BitVec.ofNat 32 n) 0

/-! ### Registers -/

/-- The value of a general register; none is hardwired (10_state.md R32). -/
def Gprs.get (g : Gprs) : Gpr → Word
  | .r0 => g.r0 | .r1 => g.r1 | .r2 => g.r2 | .r3 => g.r3 | .r4 => g.r4 | .r5 => g.r5 | .r6 => g.r6 | .r7 => g.r7
  | .r8 => g.r8 | .r9 => g.r9 | .r10 => g.r10 | .r13 => g.r13 | .r28 => g.r28 | .r29 => g.r29 | .r30 => g.r30 | .r31 => g.r31

/-- The general registers with one written. -/
def Gprs.set (g : Gprs) (r : Gpr) (v : Word) : Gprs :=
  match r with
  | .r0 => { g with r0 := v } | .r1 => { g with r1 := v } | .r2 => { g with r2 := v } | .r3 => { g with r3 := v }
  | .r4 => { g with r4 := v } | .r5 => { g with r5 := v } | .r6 => { g with r6 := v } | .r7 => { g with r7 := v }
  | .r8 => { g with r8 := v } | .r9 => { g with r9 := v } | .r10 => { g with r10 := v } | .r13 => { g with r13 := v }
  | .r28 => { g with r28 := v } | .r29 => { g with r29 := v } | .r30 => { g with r30 := v } | .r31 => { g with r31 := v }

/-- `GPR[r]` (00_scope.md R12). -/
def State.reg (s : State) (r : Gpr) : Word := s.gpr.get r

/-- `GPR[r] <- v` (00_scope.md R12). -/
def State.setReg (s : State) (r : Gpr) (v : Word) : State := { s with gpr := s.gpr.set r v }

/-- `VDR[d]` (10_state.md R33). -/
def State.vdr (s : State) (d : Vdr) : Dword := dwordOf (s.reg d.high) (s.reg d.low)

/-- `VDR[d] <- v`: both GPRs (10_state.md R33). -/
def State.setVdr (s : State) (d : Vdr) (v : Dword) : State := (s.setReg d.high (dwordHi v)).setReg d.low (dwordLo v)

/-- Whether the core is a PPE 42X (00_scope.md R3). -/
def State.isX (s : State) : Bool := s.cfg.variant = .ppe42x

/-! ### Status bits -/

/-- The bits of the MSR and of SRR1 that exist (10_state.md R48, R65). -/
def msrMask : Word := 0x7FFF9DFF

/-- MSR[UIE] (10_state.md R48). -/
def State.uie (s : State) : Bool := bitAt s.msr 15
/-- MSR[EE] (10_state.md R48). -/
def State.ee (s : State) : Bool := bitAt s.msr 16
/-- MSR[ME] (10_state.md R48). -/
def State.me (s : State) : Bool := bitAt s.msr 19
/-- MSR[WE] (10_state.md R50). -/
def State.we (s : State) : Bool := bitAt s.msr 13
/-- MSR[SIBRC] (10_state.md R49). -/
def State.sibrc (s : State) : BitVec 3 := bits s.msr 9 3

/-- Whether a store error may be reported later: MSR[IPE] is 1 and the instance supports it (20_memory.md R125). -/
def State.impreciseMode (s : State) : Bool := s.cfg.imprecise && bitAt s.msr 23

/-- A SIB access completed with code `c`: SIBRC takes it and SIBRCA accumulates it (10_state.md R49). -/
def sibComplete (c : BitVec 3) (s : State) : State :=
  { s with msr := setBit (setField s.msr 9 c) (24 + c.toNat) true }

/-- Whether MSR[SEM] masks the SIB return code `c`, 1 to 7 (10_state.md R48). -/
def sibMasked (c : BitVec 3) (s : State) : Bool := bitAt s.msr c.toNat

/-- The watchdog exception: TCR[WIE] and TSR[WIS] (60_exceptions.md R503). -/
def State.wdtPending (s : State) : Bool := bitAt s.tcr 4 && bitAt s.tsr 1
/-- The fixed interval timer exception: TCR[FIE] and TSR[FIS] (60_exceptions.md R503). -/
def State.fitPending (s : State) : Bool := bitAt s.tcr 8 && bitAt s.tsr 5
/-- The decrementer exception: TCR[DIE] and TSR[DIS] (60_exceptions.md R503). -/
def State.decPending (s : State) : Bool := bitAt s.tcr 5 && bitAt s.tsr 4

/-- ISR[EP], computed and independent of MSR[EE] (10_state.md R59). -/
def State.ep (s : State) : Bool := s.pins.extIntr || s.decPending || s.fitPending || s.wdtPending

/-- The ISR as a program reads it (10_state.md R59). -/
def State.isrValue (s : State) : Word := s.isr ||| place (ofBool s.ep) 21

/-- XSR[HS]: HCP, and no stepped or rammed instruction and no reset in progress (62_debug_xir.md R621; log 25). -/
def State.halted (s : State) : Bool := s.xsr.hcp && !s.xsr.rip && !s.xsr.sip && s.resetting.isNone

/-- The 4-bit state-machine state (62_debug_xir.md R640; log 24). -/
def State.sms (s : State) : BitVec 4 :=
  if s.resetting.isSome then s.cfg.sms.resetting
  else if s.xsr.rip then s.cfg.sms.ramming
  else if s.xsr.sip then s.cfg.sms.stepping
  else if s.xsr.hcp then s.cfg.sms.halted
  else if s.we then s.cfg.sms.waiting
  else s.cfg.sms.running

/-- `arb_high_priority` (10_state.md R51). -/
def State.arbHighPriority (s : State) : Bool := !bitAt s.msr 12 || s.ep

/-- Whether DBCR[HDFI] freezes XSR[EP], the TSR and the external interrupt input (61_timers.md R579). -/
def State.statusFrozen (s : State) : Bool := s.isX && bitAt s.dbcr 30 && decide (1 < s.xsr.hc.toNat)

/-- Whether the timers are frozen (61_timers.md R579; log 17). -/
def State.timersFrozen (s : State) : Bool :=
  s.xsr.hcp && (!s.xsr.trh || (s.isX && bitAt s.dbcr 31 && decide (1 < s.xsr.hc.toNat)))

/-! ### Halting -/

/-- A halt condition arises: HCP is set, and HC takes the code unless it is locked (62_debug_xir.md R620, R623). -/
def raiseHalt (code : BitVec 3) (s : State) : State :=
  { s with xsr := { s.xsr with hcp := true, hc := if s.xsr.hc = 0 then code else s.xsr.hc } }

/-- The debug events (62_debug_xir.md R630 to R638). -/
inductive DebugEvent where
  | trap
  | iac
  | rdac
  | wdac
  deriving DecidableEq, Repr

/-- The XSR bit of a debug event is set (10_state.md R69). -/
def recordDebug (e : DebugEvent) (s : State) : State :=
  match e with
  | .trap => { s with xsr := { s.xsr with trap := true } }
  | .iac => { s with xsr := { s.xsr with iac := true } }
  | .rdac => { s with xsr := { s.xsr with rdac := true } }
  | .wdac => { s with xsr := { s.xsr with wdac := true } }

/-- A debug event halts the core before the instruction has any effect: the XSR bit, HC = 100, error output 3 (62_debug_xir.md R630, R632,
R638, R642). A rammed trap only sets the XSR (R638). -/
def debugHalt (e : DebugEvent) (s : State) : State :=
  let t := raiseHalt 4 (recordDebug e s)
  { t with out := { t.out with error3 := t.out.error3 || !s.xsr.rip } }

/-! ### Taking an interrupt -/

/-- The first address of the handler at a vector offset (60_exceptions.md R501). -/
def vector (c : Config) (offset : BitVec 9) : Word := (c.ivpr.setWidth 32 <<< 9) ||| offset.setWidth 32

/-- `MCVEC`, the machine check offset (60_exceptions.md R501). -/
def mcVec (v : Variant) : BitVec 9 :=
  match v with
  | .ppe42 => 0x000
  | .ppe42x => 0x020

/-- Interrupt entry (60_exceptions.md R510): SRR0, SRR1, the cleared MSR (SIBRC kept, ME kept unless `clearMe`), and the vector. -/
def enter (offset : BitVec 9) (clearMe : Bool) (srr0 : Word) (s : State) : State :=
  { s with
    srr0 := wordAlign srr0
    srr1 := s.msr
    msr := s.msr &&& (if clearMe then 0x00700000 else 0x00701000)
    iar := vector s.cfg offset }

/-- The core halts at the vector in place of running the handler: HC = 011, error output 2 (60_exceptions.md R530). -/
def haltAtVector (s : State) : State :=
  let t := raiseHalt 3 s
  { t with out := { t.out with error2 := true } }

/-- ISR[MFE] and ISR[MCS] of a machine check (10_state.md R59). -/
def recordMachineCheck (mfe : Bool) (mcs : BitVec 3) (s : State) : State :=
  { s with isr := setField (setBit s.isr 28 mfe) 29 mcs }

/-- A machine check is taken, or halts the core where MSR[ME] is 0 (60_exceptions.md R511). -/
def machineCheck (srr0 : Word) (s : State) : State :=
  let t := enter (mcVec s.cfg.variant) true srr0 s
  if s.me then t else haltAtVector t

/-- The imprecise store errors pending are reported as one machine check (60_exceptions.md R514, R517): MCS = 011, MFE = 1 for several,
EDR one of the addresses (log 23), SRR0 the instruction not executed. -/
def reportImprecise (s : State) : State :=
  let several := decide (1 < s.pending.length)
  let i := if several then freeIndex s.free % s.pending.length else 0
  machineCheck s.iar (recordMachineCheck several 3
    { s with edr := s.pending.getD i 0, pending := [], free := if several then s.free + 1 else s.free })

/-- The exceptions that MSR[UIE] = 0 promotes or halts (60_exceptions.md R506). -/
inductive Exception where
  /-- Program: an illegal instruction, or a trap (R523). -/
  | program (trap : Bool)
  /-- Instruction storage (R521). -/
  | isi
  /-- Data storage, by a store-type operation or not, at an address (R520). -/
  | dsi (store : Bool) (a : Word)
  /-- Alignment, by a store-type operation or not, at an address (R524). -/
  | align (store : Bool) (a : Word)
  deriving DecidableEq, Repr

/-- The vector offset (60_exceptions.md R500). -/
def Exception.offset : Exception → BitVec 9
  | .program _ => 0x0E0
  | .isi => 0x080
  | .dsi _ _ => 0x060
  | .align _ _ => 0x0C0

/-- ISR[MCS] where the exception is promoted (60_exceptions.md R506). -/
def Exception.promotedCode : Exception → BitVec 3
  | .program _ => 4
  | .isi => 5
  | .align _ _ => 6
  | .dsi _ _ => 7

/-- The status updates made however the exception is dispatched (60_exceptions.md R506). -/
def Exception.record (e : Exception) (s : State) : State :=
  match e with
  | .program trap => { s with isr := setBit s.isr 24 trap, edr := s.ir }
  | .isi => s
  | .dsi store a => { s with isr := setBit s.isr 25 store, edr := a }
  | .align store a => { s with isr := setBit s.isr 25 store, edr := a }

/-- Dispatch of an unmaskable interrupt at the IAR: its own vector, promoted to machine check, or halted (60_exceptions.md R506). -/
def dispatch (e : Exception) (s : State) : State :=
  let t := e.record s
  if s.uie then enter e.offset false s.iar t
  else if s.me then machineCheck s.iar (recordMachineCheck false e.promotedCode t)
  else haltAtVector (enter e.offset false s.iar t)

/-- An exception is raised. Execution synchronisation comes first: an imprecise machine check it uncovers is taken in its place
(60_exceptions.md R507). -/
def raise (e : Exception) (s : State) : State :=
  if s.pending.isEmpty then dispatch e s else reportImprecise s

/-- `illegal`: the illegal-instruction program exception (60_exceptions.md R523; 00_scope.md R12). -/
def illegal (s : State) : State := raise (.program false) s

/-- A data machine check reported precisely: MCS 001 for a load-type, 010 for a store-type access, EDR the address
(60_exceptions.md R513, R514), after execution synchronisation (R507). -/
def dataMachineCheck (store : Bool) (a : Word) (s : State) : State :=
  if s.pending.isEmpty then
    machineCheck s.iar (recordMachineCheck false (if store then 2 else 1) { s with edr := a })
  else reportImprecise s

/-- An instruction machine check: MCS 000, EDR unchanged (60_exceptions.md R512), after execution synchronisation (R507). -/
def fetchMachineCheck (s : State) : State :=
  if s.pending.isEmpty then machineCheck s.iar (recordMachineCheck false 0 s) else reportImprecise s

/-- The asynchronous interrupts, in falling priority (60_exceptions.md R504). -/
inductive Async where
  | watchdog
  | external
  | fit
  | decrementer
  deriving DecidableEq, Repr

/-- The vector offset (60_exceptions.md R500). -/
def Async.offset : Async → BitVec 9
  | .watchdog => 0x140
  | .external => 0x0A0
  | .fit => 0x120
  | .decrementer => 0x100

/-- The highest-priority pending asynchronous exception (60_exceptions.md R503, R504). -/
def State.asyncPending (s : State) : Option Async :=
  if s.wdtPending then some .watchdog
  else if s.pins.extIntr then some .external
  else if s.fitPending then some .fit
  else if s.decPending then some .decrementer
  else none

/-- The asynchronous interrupt that is taken before the next instruction: pending and MSR[EE] = 1 (60_exceptions.md R503, R505 step 1). -/
def State.asyncTaken (s : State) : Option Async := if s.ee then s.asyncPending else none

/-- An asynchronous interrupt is taken with SRR0 the next instruction (60_exceptions.md R503, R507, R522 to R529). -/
def takeAsync (a : Async) (s : State) : State :=
  if s.pending.isEmpty then enter a.offset false s.iar s else reportImprecise s

/-- Return from interrupt: the MSR from SRR1, the IAR from SRR0 (60_exceptions.md R532; 49_system.md R447). -/
def returnFromInterrupt (s : State) : State :=
  { s with msr := s.srr1 &&& msrMask, iar := wordAlign s.srr0 }

/-- A context-synchronising point: what runs only where no imprecise error is pending (60_exceptions.md R517). -/
def synchronised (s : State) (t : State) : State := if s.pending.isEmpty then t else reportImprecise s

/-! ### Debug compares -/

/-- The address bits an instruction compare uses (62_debug_xir.md R630). -/
def iacMask (s : State) : Word :=
  if s.isX then
    match (bits s.dbcr 24 2).toNat with
    | 0 => 0xFFFFFFFC
    | 1 => 0xFFFFFFFC
    | 2 => 0xFFFFFFF8
    | _ => 0xFFFFFFE0
  else 0xFFFFFFFF

/-- The address bits a data compare uses (62_debug_xir.md R632). -/
def dacMask (s : State) : Word :=
  if s.isX then
    match (bits s.dbcr 24 2).toNat with
    | 0 => 0xFFFFFFFF
    | 1 => 0xFFFFFFFC
    | 2 => 0xFFFFFFF8
    | _ => 0xFFFFFFE0
  else 0xFFFFFFFF

/-- The instruction-address-compare event, or the zero-address event, at the IAR (62_debug_xir.md R630, R635). -/
def iacMatch (s : State) : Bool :=
  (bitAt s.dbcr 8 && s.iar &&& iacMask s = s.dacr &&& iacMask s) || (s.isX && bitAt s.dbcr 29 && s.iar = 0)

/-- Whether DBCR[DACE] enables data compares of a type; on PPE 42 IACE must be 0 (62_debug_xir.md R632). -/
def dacEnabled (store : Bool) (s : State) : Bool :=
  (if store then bitAt s.dbcr 13 else bitAt s.dbcr 12) && (s.isX || !bitAt s.dbcr 8)

/-- The data-address-compare event, or the zero-address event, for the first address of a request (62_debug_xir.md R632, R635; log 15). -/
def dacMatch (store : Bool) (a : Word) (s : State) : Bool :=
  (dacEnabled store s && a &&& dacMask s = s.dacr &&& dacMask s) || (s.isX && bitAt s.dbcr 29 && a = 0)

/-! ### The memory interface -/

/-- The region that answers for an address (log 6). -/
def MemSys.regionAt (m : MemSys) (a : Word) : Option Region :=
  m.map.find? fun r => decide (r.base.toNat ≤ a.toNat) && decide (a.toNat < r.base.toNat + r.size)

/-- The answer to an access of `n` bytes (20_memory.md R101, R113). -/
def Replies.size (r : Replies) (n : Nat) : DataReply :=
  match n with
  | 1 => r.byte
  | 2 => r.half
  | 4 => r.word
  | _ => r.dword

/-- How strong a reply is: of the bytes of one access the strongest answers. Data storage comes before alignment (60_exceptions.md R528);
the order of the others, where one access lies in regions that answer differently, is the model's choice (log 6). -/
def DataReply.rank : DataReply → Nat
  | .dsi => 6
  | .align => 5
  | .error => 4
  | .writeBack _ => 3
  | .sib c => if c = 0 then 1 else 2
  | .ok => 0

/-- The stronger of two replies. Of two equally strong ones the first counts, so of two SIB codes that are not 0, or of two failed
write-backs, that of the lower-addressed byte: the model's choice, for the spec does not say which code an access across two SIB regions
gets (log 6). -/
def DataReply.worse (p q : DataReply) : DataReply := if p.rank < q.rank then q else p

/-- The reply for one byte of a data access of `n` bytes: outside every region a data storage exception (20_memory.md R113;
92_eei_decisions.md D1, D2). -/
def MemSys.byteReply (m : MemSys) (store misaligned : Bool) (n : Nat) (a : Word) : DataReply :=
  match m.regionAt a with
  | none => .dsi
  | some r => ((if store then r.store else r.load).size n).worse (if r.strict && misaligned then .align else .ok)

/-- The reply for an access of `n` bytes: the strongest of its bytes (20_memory.md R101; log 6). -/
def MemSys.dataReply (m : MemSys) (store : Bool) (a : Word) (n : Nat) : DataReply :=
  (List.range n).foldl (fun acc i => acc.worse (m.byteReply store (decide (a.toNat % n ≠ 0)) n (a + BitVec.ofNat 32 i))) .ok

/-- How strong a fetch reply is. That an instruction storage exception comes before an error, where one word lies in regions that answer
both, is the model's choice (log 6). -/
def FetchReply.rank : FetchReply → Nat
  | .isi => 4
  | .error => 3
  | .sib c => if c = 0 then 1 else 2
  | .ok => 0

/-- The stronger of two fetch replies. Of two SIB codes that are not 0 the first counts, that of the lower-addressed byte: the model's
choice (log 6). -/
def FetchReply.worse (p q : FetchReply) : FetchReply := if p.rank < q.rank then q else p

/-- The reply for the fetch of a word: outside every region an instruction storage exception (92_eei_decisions.md D1). -/
def MemSys.fetchReply (m : MemSys) (a : Word) : FetchReply :=
  (List.range 4).foldl
    (fun acc i => acc.worse (match m.regionAt (a + BitVec.ofNat 32 i) with | none => .isi | some r => r.fetch)) .ok

/-- The end of a request to memory: done with a value, or the instruction is abandoned in a state where an exception is taken or the core
halts (60_exceptions.md R508). -/
inductive Access (α : Type) where
  | done (a : α) (s : State)
  | taken (s : State)

/-- The classification of a data request (60_exceptions.md R527; 62_debug_xir.md R633). -/
structure Request where
  /-- Store-type in the debug compare. -/
  dac : Bool
  /-- ISR[ST] of its data storage and alignment interrupts. -/
  st : Bool
  /-- Store-type in its machine checks. -/
  mcs : Bool
  deriving DecidableEq, Repr

/-- A load-type request (60_exceptions.md R527). -/
def Request.load : Request := ⟨false, false, false⟩

/-- A store-type request (60_exceptions.md R527). -/
def Request.store : Request := ⟨true, true, true⟩

/-- What a request that is not abandoned was granted. -/
inductive Grant where
  /-- It succeeds. -/
  | plain
  /-- A SIB return code is masked: the value is free (20_memory.md R138). -/
  | masked
  /-- A store error that will be reported later (20_memory.md R125). -/
  | deferred
  deriving DecidableEq, Repr

/-- Whether this access reports pending imprecise errors: it may by the instance's choice, it must where the outstanding stores are at their
bound, and a rammed access always does (60_exceptions.md R517; 62_debug_xir.md R650; log 23). -/
def State.reportsNow (s : State) : Bool :=
  !s.pending.isEmpty && (s.xsr.rip || s.cfg.reportAtAccess || decide (s.cfg.maxStores ≤ s.pending.length))

/-- An error reply: a store-type error in imprecise mode is reported later, any other now (20_memory.md R111, R125). -/
def dataError (q : Request) (a : Word) (s : State) : Access Grant :=
  if q.mcs && s.impreciseMode then .done .deferred { s with pending := s.pending ++ [a] }
  else .taken (dataMachineCheck q.mcs a s)

/-- The access is done but a write-back that it provoked failed at `line`: a store-type error of that address, whatever the access's own
class (20_memory.md R126; 60_exceptions.md R514). In imprecise mode it is reported later; in precise mode the instruction is abandoned. -/
def writeBackError (line : Word) (s : State) : Access Grant :=
  match dataError .store line s with
  | .done _ t => .done .plain t
  | .taken t => .taken t

/-- A SIB reply with a return code (20_memory.md R138; 10_state.md R49). That an access completes, for SIBRC and SIBRCA, as it issues, also
where its error is deferred, is the model's choice (log 38). -/
def sibAccess (q : Request) (a : Word) (c : BitVec 3) (s : State) : Access Grant :=
  if c = 0 then .done .plain (sibComplete c s)
  else if sibMasked c s then .done .masked (sibComplete c s)
  else dataError q a (sibComplete c s)

/-- A data request that the memory subsystem answers with `reply` (60_exceptions.md R505 steps 5 to 7): the debug compare, which ramming
suppresses; data storage and alignment; pending imprecise errors; the access's own machine check. -/
def request (q : Request) (a : Word) (reply : DataReply) (s : State) : Access Grant :=
  if !s.xsr.rip && dacMatch q.dac a s then .taken (debugHalt (if q.dac then .wdac else .rdac) s)
  else
    match reply with
    | .dsi => .taken (raise (.dsi q.st a) s)
    | .align => .taken (raise (.align q.st a) s)
    | .error => if s.reportsNow then .taken (reportImprecise s) else dataError q a s
    | .writeBack line => if s.reportsNow then .taken (reportImprecise s) else writeBackError line s
    | .sib c => if s.reportsNow then .taken (reportImprecise s) else sibAccess q a c s
    | .ok => if s.reportsNow then .taken (reportImprecise s) else .done .plain s

/-- `MemRead(a, n)`: the zero-extended value (20_memory.md R110). A masked SIB load's value is free (log 22). That no load changes memory or
the memory subsystem is the model's choice: which addresses have read side effects the spec does not discuss (20_memory.md R113; log 42). -/
def memRead (w : Width) (a : Word) (s : State) : Access Dword :=
  match request .load a (s.sys.dataReply false a w.bytes) s with
  | .taken t => .taken t
  | .done .masked t => .done (w.truncate (freeDword t.free)) { t with free := t.free + 1 }
  | .done _ t => .done (readMem w t.mem a) t

/-- `MemWrite(a, n, v)` (20_memory.md R111). A failing store writes nothing (log 7); a masked SIB store leaves free bytes (log 22). -/
def memWrite (w : Width) (a : Word) (v : Dword) (s : State) : Access Unit :=
  match request .store a (s.sys.dataReply true a w.bytes) s with
  | .taken t => .taken t
  | .done .plain t => .done () { t with mem := writeMem w t.mem a v }
  | .done .masked t => .done () { t with mem := writeMem w t.mem a (freeDword t.free), free := t.free + 1 }
  | .done .deferred t => .done () t

/-- `fetch(IAR)` (20_memory.md R112; 60_exceptions.md R505 step 3, R512, R521). A SIB code is recorded only where it is not 0 (10_state.md
R49). -/
def fetch (s : State) : Access Word :=
  match s.sys.fetchReply s.iar with
  | .ok => .done (readWord s.mem s.iar) s
  | .isi => .taken (raise .isi s)
  | .error => .taken (fetchMachineCheck s)
  | .sib c => if c = 0 then .done (readWord s.mem s.iar) s else .taken (fetchMachineCheck (sibComplete c s))

/-- What comes before decode (60_exceptions.md R505 steps 1 to 3): an asynchronous interrupt, the wait state (10_state.md R50), the
instruction compare, the fetch; a fetched word is latched in the IR (10_state.md R37). That a fetch which is rejected or has an
error leaves the IR as it was is the model's choice (log 43). -/
def fetchNext (s : State) : Access Word :=
  match s.asyncTaken with
  | some a => .taken (takeAsync a s)
  | none =>
    if s.we then .taken s
    else if iacMatch s then .taken (debugHalt .iac s)
    else
      match fetch s with
      | .done w t => .done w { t with ir := w }
      | .taken t => .taken t

/-! ### Reset -/

/-- A reset is requested (70_reset_and_hazards.md R705 step 1): the first one records the state-machine state in ISR[SRSMS]; a hard one has
priority over a soft one (R700). -/
def beginReset (k : ResetKind) (hreset : Bool) (s : State) : State :=
  match s.resetting with
  | none => { s with isr := setField s.isr 16 s.sms, resetting := some ⟨k, hreset, false⟩ }
  | some r =>
    { s with resetting := some ⟨if r.kind = .hard then .hard else k, r.hreset || hreset, r.applied && !hreset⟩ }

/-- The changes made while the memory subsystem is being reset (70_reset_and_hazards.md R705 step 3). That a reset of either kind leaves
the bytes of memory and the memory map is the model's choice (log 37). -/
def applyReset (r : ResetState) (s : State) : State :=
  { s with
    dbcr := 0
    tcr := setField s.tcr 2 (0 : BitVec 2)
    xsr := { s.xsr with hc := 0, rip := false, sip := false, hcp := s.xsr.hcp && !r.hreset }
    resetting := some { r with applied := true } }

/-- The system reset interrupt (70_reset_and_hazards.md R705 steps 4 and 5; 60_exceptions.md R519). Nothing of an earlier instruction is
reported afterwards (R502; log 32). That a reset of either kind leaves the bytes of memory and the memory map, which R706 calls instance
specific, is the model's choice (log 37). -/
def takeReset (s : State) : State :=
  enter 0x040 true s.iar { s with resetting := none, pending := [] }

/-- A core step in the reset state: it lasts while `hreset_req` is active (70_reset_and_hazards.md R702) and until the memory subsystem
acknowledges (R704). That one acknowledgement serves a soft and a hard reset alike is the model's choice (log 44). -/
def resetStep (r : ResetState) (s : State) : State :=
  if r.hreset && s.pins.hresetReq then s
  else
    let t := if r.applied then s else applyReset r s
    if t.sys.resetAck then takeReset t else t

/-- Force halt: it ends a reset, a ram and a step (62_debug_xir.md R616; log 10). -/
def forceHalt (code : BitVec 3) (s : State) : State :=
  raiseHalt code { s with resetting := none, xsr := { s.xsr with rip := false, sip := false } }

/-- The level of `hreset_req` holds the core in a hard reset, which it enters again where a force halt has ended it
(70_reset_and_hazards.md R702; log 41). -/
def sampleHresetReq (s : State) : State := if s.pins.hresetReq then beginReset .hard true s else s

/-- The level of `halt_req` is a halt condition (62_debug_xir.md R626). -/
def sampleHaltReq (s : State) : State := if s.pins.haltReq then raiseHalt 6 s else s

/-! ### The next instruction -/

/-- `NIA = CIA + 4`, modulo 2^32; a rammed instruction does not advance the IAR (10_state.md R34, R35; 62_debug_xir.md R650). -/
def State.advance (s : State) : State := if s.xsr.rip then s else { s with iar := s.iar + 4 }

/-- A taken branch sets the IAR, rammed or not (62_debug_xir.md R650). -/
def State.jump (s : State) (target : Word) : State := { s with iar := wordAlign target }

/-- `t` where the form is valid, else the illegal-instruction exception (30_encoding.md R143, R176). -/
def validForm (ok : Bool) (s t : State) : State := if ok then t else illegal s

end Sys2Proof.Machine
end

