-- ==== Sys2Proof/Machine/Operands.lean ====
section
/-! DEFINITION. Operand forms: effective addresses, displacements, SPR reads and writes, and the validity of variable fields
(46_load_store.md R350; 30_encoding.md R171, R178; 49_system.md R446, R449). -/

namespace Sys2Proof.Machine

/-- `(RA|0)`: the constant 0 where the field is 0, else the register (10_state.md R32). -/
def baseOrZero (s : State) (ra : Gpr) : Word := if ra = .r0 then 0 else s.reg ra

/-- `EA <- (RA|0) + sext(D)` (46_load_store.md R350). -/
def eaD (s : State) (ra : Gpr) (d : BitVec 16) : Word := baseOrZero s ra + sext16 d

/-- `EA <- (RA|0) + (RB)` (46_load_store.md R350). -/
def eaX (s : State) (ra rb : Gpr) : Word := baseOrZero s ra + s.reg rb

/-- `EA <- (RA) + sext(D)` of the forms with update (46_load_store.md R350). -/
def eaU (s : State) (ra : Gpr) (d : BitVec 16) : Word := s.reg ra + sext16 d

/-- The byte displacement of a stack instruction: DD concatenated with 000, sign-extended (47_stack.md R403). -/
def stackDisp (dd : BitVec 13) : Word := dd.signExtend 32 <<< 3

/-- The displacement of `b`: LI concatenated with 00, sign-extended (44_branch.md R310, R311). -/
def branchDispI (li : BitVec 24) : Word := li.signExtend 32 <<< 2

/-- The displacement of `bc`: BD concatenated with 00, sign-extended (44_branch.md R312). -/
def branchDispB (bd : BitVec 14) : Word := bd.signExtend 32 <<< 2

/-- The displacement of a fused compare-branch: BDX concatenated with 00, sign-extended (45_fused_compare_branch.md R332). -/
def branchDispF (bdx : BitVec 10) : Word := bdx.signExtend 32 <<< 2

/-! ### Valid forms -/

/-- A load with update: RA is neither 0 nor RT (46_load_store.md R352). -/
def loadUpdateForm (rt ra : Gpr) : Bool := ra ≠ .r0 && ra ≠ rt

/-- `lvdu`: RA is not 0 and not a GPR of DT (46_load_store.md R352). -/
def loadUpdateVdrForm (dt : Vdr) (ra : Gpr) : Bool := ra ≠ .r0 && ra ≠ dt.high && ra ≠ dt.low

/-- A store with update: RA is not 0 (46_load_store.md R352; log 20). -/
def storeUpdateForm (ra : Gpr) : Bool := ra ≠ .r0

/-- BI names a bit of CR0 (30_encoding.md R146; log 13). -/
def crBitForm (bi : BitVec 5) : Bool := bi.toNat < 4

/-- `lsku` (47_stack.md R409). -/
def lskuForm (rt ra : Gpr) (dd : BitVec 13) : Bool := ra ≠ .r0 && rt = ra && !dd.getMsbD 0 && dd.extractLsb' 0 12 ≠ 0

/-- `lcxu` (47_stack.md R409). -/
def lcxuForm (rt ra : Gpr) (dd : BitVec 13) : Bool := ra ≠ .r0 && rt = ra && !dd.getMsbD 0 && 0x00B ≤ (dd.extractLsb' 0 12).toNat

/-- `stsku` (47_stack.md R409). -/
def stskuForm (rs ra : Gpr) (dd : BitVec 13) : Bool := ra ≠ .r0 && rs = ra && dd.getMsbD 0

/-- `stcxu` (47_stack.md R409). -/
def stcxuForm (rs ra : Gpr) (dd : BitVec 13) : Bool := ra ≠ .r0 && rs = ra && dd.getMsbD 0 && (dd.extractLsb' 0 12).toNat ≤ 0xFF5

/-- Whether a 5-bit number names a GPR (10_state.md R30). -/
def definedGpr (n : BitVec 5) : Bool := decide (n.toNat ≤ 10) || decide (n.toNat = 13) || decide (28 ≤ n.toNat)

/-! ### Special-purpose registers -/

/-- PVR: CMN, CVN, ISVI (10_state.md R62). -/
def pvrValue (c : Config) : Word :=
  place (0x42 : BitVec 8) 0 ||| place (match c.variant with | .ppe42 => (0 : BitVec 4) | .ppe42x => 1) 8 ||| place c.pvrIsvi 12

/-- XER as a 32-bit image (10_state.md R44). -/
def Xer.value (x : Xer) : Word := place (ofBool x.so) 0 ||| place (ofBool x.ov) 1 ||| place (ofBool x.ca) 2

/-- XER from a 32-bit image (10_state.md R44). -/
def Xer.ofValue (v : Word) : Xer := ⟨bitAt v 0, bitAt v 1, bitAt v 2⟩

/-- CR as a 32-bit image: CR0 and 28 zeros (10_state.md R40). -/
def Cr0.value (c : Cr0) : Word :=
  place (ofBool c.lt) 0 ||| place (ofBool c.gt) 1 ||| place (ofBool c.eq) 2 ||| place (ofBool c.so) 3

/-- CR0 from a 32-bit image (10_state.md R40). -/
def Cr0.ofValue (v : Word) : Cr0 := ⟨bitAt v 0, bitAt v 1, bitAt v 2, bitAt v 3⟩

/-- The bit of CR0 with a number (10_state.md R40). -/
def Cr0.bit (c : Cr0) (n : Nat) : Bool :=
  match n with
  | 0 => c.lt
  | 1 => c.gt
  | 2 => c.eq
  | _ => c.so

/-- `SPR[n]` as `mfspr` reads it; none for a reserved number (49_system.md R449; 10_state.md R52). -/
def readSpr (n : BitVec 10) (s : State) : Option Word :=
  match n.toNat with
  | 1 => some s.xer.value
  | 8 => some s.lr
  | 9 => some s.ctr
  | 22 => some s.dec
  | 26 => some s.srr0
  | 27 => some s.srr1
  | 61 => some s.edr
  | 62 => some s.isrValue
  | 63 => some (s.cfg.ivpr.setWidth 32 <<< 9)
  | 272 => some s.sprg0
  | 286 => some (s.cfg.pirValue.setWidth 32)
  | 287 => some (pvrValue s.cfg)
  | 308 => some s.dbcr
  | 316 => some s.dacr
  | 336 => some s.tsr
  | 340 => some s.tcr
  | _ => none

/-- The bits of DBCR that are stored (10_state.md R56). -/
def dbcrMask (v : Variant) : Word :=
  match v with
  | .ppe42 => 0x018C0000
  | .ppe42x => 0x018C00C7

/-- The bits of TCR (10_state.md R66). -/
def tcrMask (v : Variant) : Word :=
  match v with
  | .ppe42 => 0xFFC00000
  | .ppe42x => 0xFFE00000

/-- The bits of TSR (10_state.md R67). -/
def tsrMask : Word := 0xFC000000

/-- The stored bits of ISR (10_state.md R59). -/
def isrMask : Word := 0x0000F0CF

/-- `mtspr DEC`: TSR[DIS] is set where DEC bit 0 goes from 0 to 1 (61_timers.md R572). -/
def writeDec (v : Word) (s : State) : State :=
  { s with dec := v, tsr := if !bitAt s.dec 0 && bitAt v 0 then setBit s.tsr 4 true else s.tsr }

/-- `mtspr TSR`: each 1 clears its bit; a rammed one writes directly (10_state.md R67; 61_timers.md R580). -/
def writeTsr (v : Word) (s : State) : State :=
  { s with tsr := if s.xsr.rip then v &&& tsrMask else s.tsr &&& ~~~ v }

/-- `mtspr DBCR`: the fields, and the action of RST (10_state.md R56; 62_debug_xir.md R627; 70_reset_and_hazards.md R700). -/
def writeDbcr (v : Word) (s : State) : State :=
  let t := { s with dbcr := v &&& dbcrMask s.cfg.variant }
  match (bits v 2 2).toNat with
  | 0 => t
  | 1 => beginReset .soft false t
  | 2 => beginReset .hard false t
  | _ => raiseHalt 5 { t with out := { t.out with error3 := true } }

/-- `SPR[n] <- v` by `mtspr`, through the register's write function; none for a reserved or read-only number (49_system.md R446). -/
def writeSpr (n : BitVec 10) (v : Word) (s : State) : Option State :=
  match n.toNat with
  | 1 => some { s with xer := Xer.ofValue v }
  | 8 => some { s with lr := v }
  | 9 => some { s with ctr := v }
  | 22 => some (writeDec v s)
  | 26 => some { s with srr0 := wordAlign v }
  | 27 => some { s with srr1 := v &&& msrMask }
  | 61 => some { s with edr := v }
  | 62 => some { s with isr := v &&& isrMask }
  | 272 => some { s with sprg0 := v }
  | 308 => some (writeDbcr v s)
  | 316 => some { s with dacr := v }
  | 336 => some (writeTsr v s)
  | 340 => some { s with tcr := v &&& tcrMask s.cfg.variant }
  | _ => none

/-! ### Power-on -/

/-- The power-on value of a register replaced, its reserved bits 0 (70_reset_and_hazards.md R708; 10_state.md R70; log 40). -/
def applyOverride (o : Override) (s : State) : State :=
  match o with
  | .gpr r v => s.setReg r v
  | .cr v => { s with cr0 := Cr0.ofValue v }
  | .xer v => { s with xer := Xer.ofValue v }
  | .msr v => { s with msr := v &&& msrMask }
  | .iar v => { s with iar := wordAlign v }
  | .ir v => { s with ir := v }
  | .lr v => { s with lr := v }
  | .ctr v => { s with ctr := v }
  | .dec v => { s with dec := v }
  | .srr0 v => { s with srr0 := wordAlign v }
  | .srr1 v => { s with srr1 := v &&& msrMask }
  | .edr v => { s with edr := v }
  | .isr v => { s with isr := v &&& isrMask }
  | .sprg0 v => { s with sprg0 := v }
  | .dbcr v => { s with dbcr := v &&& dbcrMask s.cfg.variant }
  | .dacr v => { s with dacr := v }
  | .tsr v => { s with tsr := v &&& tsrMask }
  | .tcr v => { s with tcr := v &&& tcrMask s.cfg.variant }
  | .xsr v =>
    { s with xsr := { s.xsr with
        hc := bits v 1 3
        hcp := bitAt v 4
        trap := bitAt v 7
        iac := bitAt v 8
        rdac := bitAt v 12
        wdac := bitAt v 13
        trh := bitAt v 15 } }

/-- The power-on state of an instance: every register 0 and the core halted, but for the instance's overrides
(70_reset_and_hazards.md R708; 10_state.md R77). -/
def State.powerOn (c : Config) : State :=
  c.overrides.foldl (fun s o => applyOverride o s) { cfg := c, xsr := { hcp := true }, sys := flatRam }

end Sys2Proof.Machine
end

