-- ==== Sys2Proof/Machine/Flags.lean ====
section
/-! DEFINITION. The one adder and every flag computation (40_arith.md R200, R201; 10_state.md R41, R42, R45, R46). -/

namespace Sys2Proof.Machine

/-- What the adder answers. -/
structure Sum where
  /-- The 32-bit sum. -/
  result : Word
  /-- The carry out of bit 0. -/
  ca : Bool
  /-- Whether the carry into bit 0 differs from the carry out of it. -/
  ov : Bool
  deriving DecidableEq, Repr

/-- `add3(a, b, c)`: the exact sum of three inputs, its carry and its overflow (40_arith.md R200). -/
def add3 (a b : Word) (c : Bool) : Sum :=
  let s := a.toNat + b.toNat + c.toNat
  let carryIn := decide (2 ^ 31 ≤ a.toNat % 2 ^ 31 + b.toNat % 2 ^ 31 + c.toNat)
  let carryOut := decide (2 ^ 32 ≤ s)
  ⟨BitVec.ofNat 32 s, carryOut, carryIn != carryOut⟩

/-- `setCR0(r)` (10_state.md R41). -/
def setCR0 (r : Word) (s : State) : State :=
  { s with cr0 := ⟨bitAt r 0, !bitAt r 0 && decide (r ≠ 0), decide (r = 0), s.xer.so⟩ }

/-- CR0 from a 64-bit result, as a signed 64-bit number (42_rotate_shift.md R279; log 18). -/
def setCR0Dword (r : Dword) (s : State) : State :=
  { s with cr0 := ⟨r.getMsbD 0, !r.getMsbD 0 && decide (r ≠ 0), decide (r = 0), s.xer.so⟩ }

/-- `cmpCR0(a, b, signed)` (10_state.md R42). -/
def cmpCR0 (a b : Word) (signed : Bool) (s : State) : State :=
  let less := if signed then decide (a.toInt < b.toInt) else decide (a.toNat < b.toNat)
  let greater := if signed then decide (b.toInt < a.toInt) else decide (b.toNat < a.toNat)
  { s with cr0 := ⟨less, greater, decide (a = b), s.xer.so⟩ }

/-- XER[CA] is written (10_state.md R46). -/
def setCA (c : Bool) (s : State) : State := { s with xer := { s.xer with ca := c } }

/-- XER[OV] is written, and XER[SO] accumulates it (10_state.md R45). -/
def setOV (v : Bool) (s : State) : State := { s with xer := { s.xer with ov := v, so := s.xer.so || v } }

/-- `setCR0` where the record bit is 1. -/
def record (rc : Bool) (r : Word) (s : State) : State := if rc then setCR0 r s else s

/-- The 64-bit record where the record bit is 1. -/
def recordDword (rc : Bool) (r : Dword) (s : State) : State := if rc then setCR0Dword r s else s

/-- The overflow flags where OE is 1. -/
def overflow (oe : Bool) (v : Bool) (s : State) : State := if oe then setOV v s else s

end Sys2Proof.Machine
end

