-- ==== Sys2Proof/Machine/Arith.lean ====
section
/-! DEFINITION. The integer arithmetic instructions (40_arith.md). -/

namespace Sys2Proof.Machine

/-- The common suffix of the XO-form instructions (40_arith.md R201). -/
def arithResult (carrying oe rc : Bool) (rt : Gpr) (m : Sum) (s : State) : State :=
  let t := s.setReg rt m.result
  let t := if carrying then setCA m.ca t else t
  (record rc m.result (overflow oe m.ov t)).advance

/-- The exact signed product of two words: its low 32 bits, and whether it does not fit them (40_arith.md R218, R219). -/
def mulSigned (a b : Word) : Sum :=
  let p := a.toInt * b.toInt
  ⟨BitVec.ofInt 32 p, false, decide (p < -(2 ^ 31)) || decide (2 ^ 31 ≤ p)⟩

/-- `add[o][.] RT, RA, RB` (40_arith.md R202). -/
def execAdd (rt ra rb : Gpr) (oe rc : Bool) (s : State) : Host.Outcome State Fault Refusal :=
  .next (arithResult false oe rc rt (add3 (s.reg ra) (s.reg rb) false) s)

/-- `addc[o][.] RT, RA, RB` (40_arith.md R203). -/
def execAddc (rt ra rb : Gpr) (oe rc : Bool) (s : State) : Host.Outcome State Fault Refusal :=
  .next (arithResult true oe rc rt (add3 (s.reg ra) (s.reg rb) false) s)

/-- `adde[o][.] RT, RA, RB` (40_arith.md R204). -/
def execAdde (rt ra rb : Gpr) (oe rc : Bool) (s : State) : Host.Outcome State Fault Refusal :=
  .next (arithResult true oe rc rt (add3 (s.reg ra) (s.reg rb) s.xer.ca) s)

/-- `addi RT, RA, SI` (40_arith.md R205). -/
def execAddi (rt ra : Gpr) (si : BitVec 16) (s : State) : Host.Outcome State Fault Refusal :=
  .next (s.setReg rt (baseOrZero s ra + sext16 si)).advance

/-- `addic RT, RA, SI`; RA = 0 names GPR 0 (40_arith.md R206). -/
def execAddic (rt ra : Gpr) (si : BitVec 16) (s : State) : Host.Outcome State Fault Refusal :=
  .next (arithResult true false false rt (add3 (s.reg ra) (sext16 si) false) s)

/-- `addic. RT, RA, SI` (40_arith.md R207). -/
def execAddicDot (rt ra : Gpr) (si : BitVec 16) (s : State) : Host.Outcome State Fault Refusal :=
  .next (arithResult true false true rt (add3 (s.reg ra) (sext16 si) false) s)

/-- `addis RT, RA, SI` (40_arith.md R208). -/
def execAddis (rt ra : Gpr) (si : BitVec 16) (s : State) : Host.Outcome State Fault Refusal :=
  .next (s.setReg rt (baseOrZero s ra + place si 0)).advance

/-- `addme[o][.] RT, RA` (40_arith.md R209). -/
def execAddme (rt ra : Gpr) (oe rc : Bool) (s : State) : Host.Outcome State Fault Refusal :=
  .next (arithResult true oe rc rt (add3 (s.reg ra) 0xFFFFFFFF s.xer.ca) s)

/-- `addze[o][.] RT, RA` (40_arith.md R210). -/
def execAddze (rt ra : Gpr) (oe rc : Bool) (s : State) : Host.Outcome State Fault Refusal :=
  .next (arithResult true oe rc rt (add3 (s.reg ra) 0 s.xer.ca) s)

/-- `subf[o][.] RT, RA, RB` (40_arith.md R211). -/
def execSubf (rt ra rb : Gpr) (oe rc : Bool) (s : State) : Host.Outcome State Fault Refusal :=
  .next (arithResult false oe rc rt (add3 (~~~s.reg ra) (s.reg rb) true) s)

/-- `subfc[o][.] RT, RA, RB` (40_arith.md R212). -/
def execSubfc (rt ra rb : Gpr) (oe rc : Bool) (s : State) : Host.Outcome State Fault Refusal :=
  .next (arithResult true oe rc rt (add3 (~~~s.reg ra) (s.reg rb) true) s)

/-- `subfe[o][.] RT, RA, RB` (40_arith.md R213). -/
def execSubfe (rt ra rb : Gpr) (oe rc : Bool) (s : State) : Host.Outcome State Fault Refusal :=
  .next (arithResult true oe rc rt (add3 (~~~s.reg ra) (s.reg rb) s.xer.ca) s)

/-- `subfic RT, RA, SI`; RA = 0 names GPR 0 (40_arith.md R214). -/
def execSubfic (rt ra : Gpr) (si : BitVec 16) (s : State) : Host.Outcome State Fault Refusal :=
  .next (arithResult true false false rt (add3 (~~~s.reg ra) (sext16 si) true) s)

/-- `subfme[o][.] RT, RA` (40_arith.md R215). -/
def execSubfme (rt ra : Gpr) (oe rc : Bool) (s : State) : Host.Outcome State Fault Refusal :=
  .next (arithResult true oe rc rt (add3 (~~~s.reg ra) 0xFFFFFFFF s.xer.ca) s)

/-- `subfze[o][.] RT, RA` (40_arith.md R216). -/
def execSubfze (rt ra : Gpr) (oe rc : Bool) (s : State) : Host.Outcome State Fault Refusal :=
  .next (arithResult true oe rc rt (add3 (~~~s.reg ra) 0 s.xer.ca) s)

/-- `neg[o][.] RT, RA` (40_arith.md R217). -/
def execNeg (rt ra : Gpr) (oe rc : Bool) (s : State) : Host.Outcome State Fault Refusal :=
  .next (arithResult false oe rc rt (add3 (~~~s.reg ra) 0 true) s)

/-- `mulli RT, RA, IM`, on PPE 42X (40_arith.md R218). -/
def execMulli (rt ra : Gpr) (si : BitVec 16) (s : State) : Host.Outcome State Fault Refusal :=
  .next (validForm s.isX s (s.setReg rt (mulSigned (s.reg ra) (sext16 si)).result).advance)

/-- `mullw[o][.] RT, RA, RB`, on PPE 42X (40_arith.md R219). -/
def execMullw (rt ra rb : Gpr) (oe rc : Bool) (s : State) : Host.Outcome State Fault Refusal :=
  .next (validForm s.isX s (arithResult false oe rc rt (mulSigned (s.reg ra) (s.reg rb)) s))

/-- `mullhw[.] RT, RA, RB` (40_arith.md R220). -/
def execMullhw (rt ra rb : Gpr) (rc : Bool) (s : State) : Host.Outcome State Fault Refusal :=
  let r := BitVec.ofInt 32 ((bits (s.reg ra) 16 16).toInt * (bits (s.reg rb) 16 16).toInt)
  .next (record rc r (s.setReg rt r)).advance

/-- `mullhwu[.] RT, RA, RB` (40_arith.md R221). -/
def execMullhwu (rt ra rb : Gpr) (rc : Bool) (s : State) : Host.Outcome State Fault Refusal :=
  let r := BitVec.ofNat 32 ((bits (s.reg ra) 16 16).toNat * (bits (s.reg rb) 16 16).toNat)
  .next (record rc r (s.setReg rt r)).advance

end Sys2Proof.Machine
end

