-- ==== Sys2Proof/Machine/Branch.lean ====
section
/-! DEFINITION. The branch instructions (44_branch.md). -/

namespace Sys2Proof.Machine

/-- The link (LR takes CIA + 4 where LK = 1, taken or not) and the next address (44_branch.md R311, R312; 45_fused_compare_branch.md R331,
R332). -/
def branch (taken lk : Bool) (target : Word) (s : State) : State :=
  let t := if lk then { s with lr := s.iar + 4 } else s
  if taken then t.jump target else t.advance

/-- CTR decremented, modulo 2^32, where BO2 = 0 (44_branch.md R312). -/
def decrementCtr (bo : BitVec 5) (s : State) : State := if bo.getMsbD 2 then s else { s with ctr := s.ctr - 1 }

/-- `ctr_ok`, of the CTR after the decrement (44_branch.md R310). -/
def ctrOk (bo : BitVec 5) (s : State) : Bool := bo.getMsbD 2 || (decide (s.ctr = 0) == bo.getMsbD 3)

/-- `cond_ok` (44_branch.md R310). -/
def condOk (bo bi : BitVec 5) (s : State) : Bool := bo.getMsbD 0 || (s.cr0.bit bi.toNat == bo.getMsbD 1)

/-- `b[l][a] target` (44_branch.md R311). -/
def execB (li : BitVec 24) (aa lk : Bool) (s : State) : Host.Outcome State Fault Refusal :=
  .next (branch true lk (if aa then branchDispI li else s.iar + branchDispI li) s)

/-- `bc[l][a] BO, BI, target` (44_branch.md R312). -/
def execBc (bo bi : BitVec 5) (bd : BitVec 14) (aa lk : Bool) (s : State) : Host.Outcome State Fault Refusal :=
  let t := decrementCtr bo s
  let target := if aa then branchDispB bd else s.iar + branchDispB bd
  .next (validForm (crBitForm bi) s (branch (ctrOk bo t && condOk bo bi t) lk target t))

/-- `bcctr[l] BO, BI`; BO2 = 0 is illegal (44_branch.md R313). -/
def execBcctr (bo bi : BitVec 5) (lk : Bool) (s : State) : Host.Outcome State Fault Refusal :=
  .next (validForm (crBitForm bi && bo.getMsbD 2) s (branch (condOk bo bi s) lk (wordAlign s.ctr) s))

/-- `bclr[l] BO, BI`; the target is the LR at entry (44_branch.md R314). -/
def execBclr (bo bi : BitVec 5) (lk : Bool) (s : State) : Host.Outcome State Fault Refusal :=
  let t := decrementCtr bo s
  .next (validForm (crBitForm bi) s (branch (ctrOk bo t && condOk bo bi t) lk (wordAlign s.lr) t))

end Sys2Proof.Machine
end

