-- ==== Sys2Proof/Machine/Cache.lean ====
section
/-! DEFINITION. The data cache management instructions and `sync` (48_cache_sync.md; log 8, log 28). Where the memory subsystem has no data cache,
`dcbf`, `dcbi` and `dcbt` do nothing but raise the data storage exception and the debug event of their address, and `dcbq` answers
"invalid". Where it has one, its contents are those of memory, and what it answers each operation is a parameter of the memory subsystem. -/

namespace Sys2Proof.Machine

/-- How `dcbf` is classified: for each use load-type but in the debug compare (90_conflicts.md C2; 60_exceptions.md R527; 62_debug_xir.md
R633), or one class everywhere. -/
def dcbfRequest (c : DcbfClass) : Request :=
  match c with
  | .perUse => ⟨true, false, false⟩
  | .load => .load
  | .store => .store

/-- Of a reply, the data storage exception alone: the permission that a cache operation needs (48_cache_sync.md R420 to R424). -/
def DataReply.storageOnly (r : DataReply) : DataReply :=
  match r with
  | .dsi => .dsi
  | .align => .ok
  | .error => .ok
  | .writeBack _ => .ok
  | .sib _ => .ok
  | .ok => .ok

/-- The reply to a load or store of the byte at EA, which gives the permission of a cache operation there (48_cache_sync.md R421, R422,
R424, R425; log 8). -/
def permission (store : Bool) (ea : Word) (s : State) : DataReply := s.sys.dataReply store ea 1

/-- The reply to a cache operation, or where there is no data cache the permission alone (20_memory.md R101; 48_cache_sync.md R420). -/
def orCached (permitted : DataReply) (own : CacheReplies → DataReply) (ea : Word) (s : State) : DataReply :=
  if s.cfg.hasDcache then
    permitted.worse (match s.sys.regionAt ea with
      | some r => own r.cacheOps
      | none => .ok)
  else permitted

/-- The reply to `dcbf`, `dcbi` or `dcbt`: the data storage exception of a load or store, and the data cache's own answer
(48_cache_sync.md R420 to R424). -/
def cacheReply (store : Bool) (own : CacheReplies → DataReply) (ea : Word) (s : State) : DataReply :=
  orCached (permission store ea s).storageOnly own ea s

/-- A cache operation that has no effect but its address's exceptions and debug event (48_cache_sync.md R420). -/
def cacheOp (q : Request) (reply : DataReply) (ea : Word) (s : State) : State :=
  match request q ea reply s with
  | .done _ t => t.advance
  | .taken t => t

/-- The first address of the block that holds an address (20_memory.md R117). -/
def blockBase (c : Config) (ea : Word) : Word := BitVec.ofNat 32 (ea.toNat / c.blockBytes * c.blockBytes)

/-- Whether a block of a region is set to 0: it is cached, or the operation is emulated (20_memory.md R117; 48_cache_sync.md R425). -/
def Region.zeroes (r : Region) (c : Config) : Bool := r.dcbz || (c.hasDcache && r.cacheable)

/-- The reply to `dcbz`: a store's, the data cache's own, and an alignment exception where the region does not set the block to 0
(48_cache_sync.md R425). -/
def dcbzReply (ea : Word) (s : State) : DataReply :=
  (orCached (permission true ea s) CacheReplies.zero ea s).worse
    (match s.sys.regionAt ea with
      | some r => if r.zeroes s.cfg then .ok else .align
      | none => .ok)

/-- What answers a query address, if it is valid (48_cache_sync.md R423). -/
def MemSys.queryAt (m : MemSys) (qa : Word) : Option Query := m.queries.find? fun q => decide (q.qa = qa)

/-- The reply to `dcbq`: with a data cache as for a load, and a data storage exception where QA is no valid descriptor; without one always
success (20_memory.md R101; 48_cache_sync.md R423; log 28). -/
def queryReply (qa : Word) (s : State) : DataReply :=
  if s.cfg.hasDcache then
    match s.sys.queryAt qa with
    | some q => q.reply
    | none => .dsi
  else .ok

/-- The word that a `dcbq` gives: with no data cache one whose bit 31 is 0 (48_cache_sync.md R423; log 8, log 28). -/
def queryWord (qa : Word) (s : State) : Word :=
  if s.cfg.hasDcache then
    match s.sys.queryAt qa with
    | some q => q.word
    | none => 0
  else place s.cfg.dcbqBits 0

/-- The bytes of a block, set to values (48_cache_sync.md R425). -/
def fillBytes (f : Nat → Byte) (m : List Host.Cell) (a : Word) : Nat → List Host.Cell
  | 0 => m
  | n + 1 => writeByte (fillBytes f m a n) (a + BitVec.ofNat 32 n) (f n)

/-- `dcbf RA, RB`, with the permission of a load (48_cache_sync.md R421). -/
def execDcbf (ra rb : Gpr) (s : State) : Host.Outcome State Fault Refusal :=
  .next (cacheOp (dcbfRequest s.cfg.dcbfClass) (cacheReply false CacheReplies.flush (eaX s ra rb) s) (eaX s ra rb) s)

/-- `dcbi RA, RB`, with the permission of a store (48_cache_sync.md R422). That ISR[ST] is 1 where an alignment interrupt comes of it, a
case that 60_exceptions.md R524 does not list, is the model's choice (log 39). -/
def execDcbi (ra rb : Gpr) (s : State) : Host.Outcome State Fault Refusal :=
  .next (cacheOp .store (cacheReply true CacheReplies.invalidate (eaX s ra rb) s) (eaX s ra rb) s)

/-- `dcbt RA, RB`, with the permission of a load (48_cache_sync.md R424). -/
def execDcbt (ra rb : Gpr) (s : State) : Host.Outcome State Fault Refusal :=
  .next (cacheOp .load (cacheReply false CacheReplies.touch (eaX s ra rb) s) (eaX s ra rb) s)

/-- `dcbz RA, RB`: the block is set to 0 (48_cache_sync.md R425). A masked SIB code leaves free bytes (20_memory.md R138; log 22). -/
def execDcbz (ra rb : Gpr) (s : State) : Host.Outcome State Fault Refusal :=
  let ea := eaX s ra rb
  let size := s.cfg.blockBytes
  .next (match request .store ea (dcbzReply ea s) s with
    | .done .plain t => { t with mem := zeroBytes t.mem (blockBase s.cfg ea) size }.advance
    | .done .masked t =>
      { t with
        mem := fillBytes (fun i => (freeDword (t.free + i)).setWidth 8) t.mem (blockBase s.cfg ea) size
        free := t.free + size }.advance
    | .done .deferred t => t.advance
    | .taken t => t)

/-- `dcbq RT, RA, RB`: the answer to the query, with the exceptions of a load (48_cache_sync.md R423; 20_memory.md R101). Under a masked SIB
code it is free (20_memory.md R138; log 22). -/
def execDcbq (rt ra rb : Gpr) (s : State) : Host.Outcome State Fault Refusal :=
  let qa := eaX s ra rb
  .next (match request .load qa (queryReply qa s) s with
    | .taken t => t
    | .done .masked t => ({ t with free := t.free + 1 }.setReg rt (dwordLo (freeDword t.free))).advance
    | .done _ t => (t.setReg rt (queryWord qa s)).advance)

/-- `sync`, rammed or not (48_cache_sync.md R426; 62_debug_xir.md R650). -/
def execSync (s : State) : Host.Outcome State Fault Refusal := .next (synchronised s s.advance)

end Sys2Proof.Machine
end

