-- ==== Sys2Proof/Machine/Compare.lean ====
section
/-! DEFINITION. The compare instructions (43_compare.md). -/

namespace Sys2Proof.Machine

/-- `cmpw RA, RB` (43_compare.md R301). -/
def execCmpw (ra rb : Gpr) (s : State) : Host.Outcome State Fault Refusal :=
  .next (cmpCR0 (s.reg ra) (s.reg rb) true s).advance

/-- `cmplw RA, RB` (43_compare.md R302). -/
def execCmplw (ra rb : Gpr) (s : State) : Host.Outcome State Fault Refusal :=
  .next (cmpCR0 (s.reg ra) (s.reg rb) false s).advance

/-- `cmpwi RA, SI` (43_compare.md R303). -/
def execCmpwi (ra : Gpr) (si : BitVec 16) (s : State) : Host.Outcome State Fault Refusal :=
  .next (cmpCR0 (s.reg ra) (sext16 si) true s).advance

/-- `cmplwi RA, UI` (43_compare.md R304). -/
def execCmplwi (ra : Gpr) (ui : BitVec 16) (s : State) : Host.Outcome State Fault Refusal :=
  .next (cmpCR0 (s.reg ra) (zext16 ui) false s).advance

end Sys2Proof.Machine
end

