-- ==== Sys2Proof/Machine/Fused.lean ====
section
/-! DEFINITION. The fused compare-and-branch instructions (45_fused_compare_branch.md). -/

namespace Sys2Proof.Machine

/-- The common steps of the comparison forms: CR0, the test, the write-back of `a - b` where BIX = 3, the link and the branch
(45_fused_compare_branch.md R330, R338). -/
def compareBranch (signed px : Bool) (bix : BitVec 2) (ra : Gpr) (b : Word) (bdx : BitVec 10) (lk : Bool) (s : State) : State :=
  let a := s.reg ra
  let t := cmpCR0 a b signed s
  let taken := px == (if bix = 3 then t.cr0.eq else t.cr0.bit bix.toNat)
  let t := if bix = 3 then t.setReg ra (~~~b + a + 1) else t
  branch taken lk (s.iar + branchDispF bdx) t

/-- The common steps of the forms that test one bit (45_fused_compare_branch.md R334). -/
def testBitBranch (px : Bool) (ra : Gpr) (n : Nat) (bdx : BitVec 10) (lk : Bool) (s : State) : State :=
  let t := setCR0 (s.reg ra &&& mask32 n n) s
  branch (px == t.cr0.eq) lk (s.iar + branchDispF bdx) t

/-- The common steps of the forms that clear one bit (45_fused_compare_branch.md R336). -/
def clearBitBranch (px : Bool) (ra : Gpr) (n : Nat) (bdx : BitVec 10) (lk : Bool) (s : State) : State :=
  let r := s.reg ra &&& ~~~mask32 n n
  let t := setCR0 r (s.setReg ra r)
  branch (px == t.cr0.eq) lk (s.iar + branchDispF bdx) t

/-- `cmpwbc[l] PX, BIX, RA, RB, target` (45_fused_compare_branch.md R339). -/
def execCmpwbc (px : Bool) (bix : BitVec 2) (ra rb : Gpr) (bdx : BitVec 10) (lk : Bool) (s : State) :
    Host.Outcome State Fault Refusal :=
  .next (compareBranch true px bix ra (s.reg rb) bdx lk s)

/-- `cmplwbc[l] PX, BIX, RA, RB, target` (45_fused_compare_branch.md R338). -/
def execCmplwbc (px : Bool) (bix : BitVec 2) (ra rb : Gpr) (bdx : BitVec 10) (lk : Bool) (s : State) :
    Host.Outcome State Fault Refusal :=
  .next (compareBranch false px bix ra (s.reg rb) bdx lk s)

/-- `cmpwibc[l] PX, BIX, RA, UIX, target`; UIX is zero-extended and the compare is signed (45_fused_compare_branch.md R340). -/
def execCmpwibc (px : Bool) (bix : BitVec 2) (ra : Gpr) (uix : BitVec 5) (bdx : BitVec 10) (lk : Bool) (s : State) :
    Host.Outcome State Fault Refusal :=
  .next (compareBranch true px bix ra (uix.setWidth 32) bdx lk s)

/-- `bnbwi[l] PX, RA, BNX, target` (45_fused_compare_branch.md R335). -/
def execBnbwi (px : Bool) (ra : Gpr) (bnx : BitVec 5) (bdx : BitVec 10) (lk : Bool) (s : State) :
    Host.Outcome State Fault Refusal :=
  .next (testBitBranch px ra bnx.toNat bdx lk s)

/-- `bnbw[l] PX, RA, RB, target` (45_fused_compare_branch.md R334). -/
def execBnbw (px : Bool) (ra rb : Gpr) (bdx : BitVec 10) (lk : Bool) (s : State) : Host.Outcome State Fault Refusal :=
  .next (testBitBranch px ra (bits (s.reg rb) 27 5).toNat bdx lk s)

/-- `clrbwibc[l] PX, RA, BNX, target` (45_fused_compare_branch.md R337). -/
def execClrbwibc (px : Bool) (ra : Gpr) (bnx : BitVec 5) (bdx : BitVec 10) (lk : Bool) (s : State) :
    Host.Outcome State Fault Refusal :=
  .next (clearBitBranch px ra bnx.toNat bdx lk s)

/-- `clrbwbc[l] PX, RA, RB, target` (45_fused_compare_branch.md R336). -/
def execClrbwbc (px : Bool) (ra rb : Gpr) (bdx : BitVec 10) (lk : Bool) (s : State) : Host.Outcome State Fault Refusal :=
  .next (clearBitBranch px ra (bits (s.reg rb) 27 5).toNat bdx lk s)

end Sys2Proof.Machine
end

