-- ==== Sys2Proof/Machine/LoadStore.lean ====
section
/-! DEFINITION. The load and store instructions (46_load_store.md). -/

namespace Sys2Proof.Machine

/-- A load into a GPR: nothing is written unless the request succeeds (46_load_store.md R351). -/
def loadGpr (w : Width) (rt : Gpr) (ea : Word) (s : State) : State :=
  match memRead w ea s with
  | .done v t => (t.setReg rt (dwordLo v)).advance
  | .taken t => t

/-- A load with update: RA takes the EA and RT the value (46_load_store.md R351). -/
def loadGprUpdate (w : Width) (rt ra : Gpr) (ea : Word) (s : State) : State :=
  match memRead w ea s with
  | .done v t => ((t.setReg ra ea).setReg rt (dwordLo v)).advance
  | .taken t => t

/-- A load into a VDR (46_load_store.md R353). -/
def loadVdr (dt : Vdr) (ea : Word) (s : State) : State :=
  match memRead .dword ea s with
  | .done v t => (t.setVdr dt v).advance
  | .taken t => t

/-- A load with update into a VDR (46_load_store.md R370). -/
def loadVdrUpdate (dt : Vdr) (ra : Gpr) (ea : Word) (s : State) : State :=
  match memRead .dword ea s with
  | .done v t => ((t.setReg ra ea).setVdr dt v).advance
  | .taken t => t

/-- A store of the low bytes of a value (46_load_store.md R351). -/
def storeValue (w : Width) (v : Dword) (ea : Word) (s : State) : State :=
  match memWrite w ea v s with
  | .done _ t => t.advance
  | .taken t => t

/-- A store with update: RA takes the EA after the store (46_load_store.md R351). -/
def storeUpdate (w : Width) (v : Dword) (ra : Gpr) (ea : Word) (s : State) : State :=
  match memWrite w ea v s with
  | .done _ t => (t.setReg ra ea).advance
  | .taken t => t

/-- The word of a GPR as a store's value (46_load_store.md R375). -/
def State.storeWord (s : State) (rs : Gpr) : Dword := (s.reg rs).setWidth 64

/-- `lbz RT, D(RA)` (46_load_store.md R360). -/
def execLbz (rt ra : Gpr) (d : BitVec 16) (s : State) : Host.Outcome State Fault Refusal :=
  .next (loadGpr .byte rt (eaD s ra d) s)

/-- `lbzu RT, D(RA)` (46_load_store.md R361). -/
def execLbzu (rt ra : Gpr) (d : BitVec 16) (s : State) : Host.Outcome State Fault Refusal :=
  .next (validForm (loadUpdateForm rt ra) s (loadGprUpdate .byte rt ra (eaU s ra d) s))

/-- `lbzx RT, RA, RB` (46_load_store.md R362). -/
def execLbzx (rt ra rb : Gpr) (s : State) : Host.Outcome State Fault Refusal :=
  .next (loadGpr .byte rt (eaX s ra rb) s)

/-- `lhz RT, D(RA)` (46_load_store.md R363). -/
def execLhz (rt ra : Gpr) (d : BitVec 16) (s : State) : Host.Outcome State Fault Refusal :=
  .next (loadGpr .half rt (eaD s ra d) s)

/-- `lhzu RT, D(RA)` (46_load_store.md R364). -/
def execLhzu (rt ra : Gpr) (d : BitVec 16) (s : State) : Host.Outcome State Fault Refusal :=
  .next (validForm (loadUpdateForm rt ra) s (loadGprUpdate .half rt ra (eaU s ra d) s))

/-- `lhzx RT, RA, RB` (46_load_store.md R365). -/
def execLhzx (rt ra rb : Gpr) (s : State) : Host.Outcome State Fault Refusal :=
  .next (loadGpr .half rt (eaX s ra rb) s)

/-- `lwz RT, D(RA)` (46_load_store.md R366). -/
def execLwz (rt ra : Gpr) (d : BitVec 16) (s : State) : Host.Outcome State Fault Refusal :=
  .next (loadGpr .word rt (eaD s ra d) s)

/-- `lwzu RT, D(RA)` (46_load_store.md R367). -/
def execLwzu (rt ra : Gpr) (d : BitVec 16) (s : State) : Host.Outcome State Fault Refusal :=
  .next (validForm (loadUpdateForm rt ra) s (loadGprUpdate .word rt ra (eaU s ra d) s))

/-- `lwzx RT, RA, RB` (46_load_store.md R368). -/
def execLwzx (rt ra rb : Gpr) (s : State) : Host.Outcome State Fault Refusal :=
  .next (loadGpr .word rt (eaX s ra rb) s)

/-- `lvd DT, D(RA)` (46_load_store.md R369). -/
def execLvd (dt : Vdr) (ra : Gpr) (d : BitVec 16) (s : State) : Host.Outcome State Fault Refusal :=
  .next (loadVdr dt (eaD s ra d) s)

/-- `lvdu DT, D(RA)` (46_load_store.md R370). -/
def execLvdu (dt : Vdr) (ra : Gpr) (d : BitVec 16) (s : State) : Host.Outcome State Fault Refusal :=
  .next (validForm (loadUpdateVdrForm dt ra) s (loadVdrUpdate dt ra (eaU s ra d) s))

/-- `lvdx DT, RA, RB` (46_load_store.md R371). -/
def execLvdx (dt : Vdr) (ra rb : Gpr) (s : State) : Host.Outcome State Fault Refusal :=
  .next (loadVdr dt (eaX s ra rb) s)

/-- `stb RS, D(RA)` (46_load_store.md R375). -/
def execStb (rs ra : Gpr) (d : BitVec 16) (s : State) : Host.Outcome State Fault Refusal :=
  .next (storeValue .byte (s.storeWord rs) (eaD s ra d) s)

/-- `stbu RS, D(RA)` (46_load_store.md R376). -/
def execStbu (rs ra : Gpr) (d : BitVec 16) (s : State) : Host.Outcome State Fault Refusal :=
  .next (validForm (storeUpdateForm ra) s (storeUpdate .byte (s.storeWord rs) ra (eaU s ra d) s))

/-- `stbx RS, RA, RB` (46_load_store.md R377). -/
def execStbx (rs ra rb : Gpr) (s : State) : Host.Outcome State Fault Refusal :=
  .next (storeValue .byte (s.storeWord rs) (eaX s ra rb) s)

/-- `sth RS, D(RA)` (46_load_store.md R378). -/
def execSth (rs ra : Gpr) (d : BitVec 16) (s : State) : Host.Outcome State Fault Refusal :=
  .next (storeValue .half (s.storeWord rs) (eaD s ra d) s)

/-- `sthu RS, D(RA)` (46_load_store.md R379). -/
def execSthu (rs ra : Gpr) (d : BitVec 16) (s : State) : Host.Outcome State Fault Refusal :=
  .next (validForm (storeUpdateForm ra) s (storeUpdate .half (s.storeWord rs) ra (eaU s ra d) s))

/-- `sthx RS, RA, RB` (46_load_store.md R380). -/
def execSthx (rs ra rb : Gpr) (s : State) : Host.Outcome State Fault Refusal :=
  .next (storeValue .half (s.storeWord rs) (eaX s ra rb) s)

/-- `stw RS, D(RA)` (46_load_store.md R381). -/
def execStw (rs ra : Gpr) (d : BitVec 16) (s : State) : Host.Outcome State Fault Refusal :=
  .next (storeValue .word (s.storeWord rs) (eaD s ra d) s)

/-- `stwu RS, D(RA)` (46_load_store.md R382). -/
def execStwu (rs ra : Gpr) (d : BitVec 16) (s : State) : Host.Outcome State Fault Refusal :=
  .next (validForm (storeUpdateForm ra) s (storeUpdate .word (s.storeWord rs) ra (eaU s ra d) s))

/-- `stwx RS, RA, RB` (46_load_store.md R383). -/
def execStwx (rs ra rb : Gpr) (s : State) : Host.Outcome State Fault Refusal :=
  .next (storeValue .word (s.storeWord rs) (eaX s ra rb) s)

/-- `stvd DS, D(RA)` (46_load_store.md R384). -/
def execStvd (ds : Vdr) (ra : Gpr) (d : BitVec 16) (s : State) : Host.Outcome State Fault Refusal :=
  .next (storeValue .dword (s.vdr ds) (eaD s ra d) s)

/-- `stvdu DS, D(RA)` (46_load_store.md R385). -/
def execStvdu (ds : Vdr) (ra : Gpr) (d : BitVec 16) (s : State) : Host.Outcome State Fault Refusal :=
  .next (validForm (storeUpdateForm ra) s (storeUpdate .dword (s.vdr ds) ra (eaU s ra d) s))

/-- `stvdx DS, RA, RB` (46_load_store.md R386). -/
def execStvdx (ds : Vdr) (ra rb : Gpr) (s : State) : Host.Outcome State Fault Refusal :=
  .next (storeValue .dword (s.vdr ds) (eaX s ra rb) s)

end Sys2Proof.Machine
end

