-- ==== Sys2Proof/Machine/Logical.lean ====
section
/-! DEFINITION. The logical, sign-extend and count instructions (41_logical.md). -/

namespace Sys2Proof.Machine

/-- A result written to RA, with CR0 where the record bit is 1 (41_logical.md R240). -/
def logicalForm (rc : Bool) (ra : Gpr) (r : Word) (s : State) : State := (record rc r (s.setReg ra r)).advance

/-- `cntlzw`'s count: the number of 0 bits before the first 1 bit, from the spec's bit `32 - k` on (41_logical.md R257). -/
def leadingZeros (w : Word) : Nat → Nat
  | 0 => 0
  | k + 1 => if bitAt w (31 - k) then 0 else leadingZeros w k + 1

/-- `and[.] RA, RS, RB` (41_logical.md R241). -/
def execAnd (ra rs rb : Gpr) (rc : Bool) (s : State) : Host.Outcome State Fault Refusal :=
  .next (logicalForm rc ra (s.reg rs &&& s.reg rb) s)

/-- `andc[.] RA, RS, RB` (41_logical.md R242). -/
def execAndc (ra rs rb : Gpr) (rc : Bool) (s : State) : Host.Outcome State Fault Refusal :=
  .next (logicalForm rc ra (s.reg rs &&& ~~~s.reg rb) s)

/-- `or[.] RA, RS, RB` (41_logical.md R243). -/
def execOr (ra rs rb : Gpr) (rc : Bool) (s : State) : Host.Outcome State Fault Refusal :=
  .next (logicalForm rc ra (s.reg rs ||| s.reg rb) s)

/-- `orc[.] RA, RS, RB` (41_logical.md R244). -/
def execOrc (ra rs rb : Gpr) (rc : Bool) (s : State) : Host.Outcome State Fault Refusal :=
  .next (logicalForm rc ra (s.reg rs ||| ~~~s.reg rb) s)

/-- `xor[.] RA, RS, RB` (41_logical.md R245). -/
def execXor (ra rs rb : Gpr) (rc : Bool) (s : State) : Host.Outcome State Fault Refusal :=
  .next (logicalForm rc ra (s.reg rs ^^^ s.reg rb) s)

/-- `nand[.] RA, RS, RB` (41_logical.md R246). -/
def execNand (ra rs rb : Gpr) (rc : Bool) (s : State) : Host.Outcome State Fault Refusal :=
  .next (logicalForm rc ra (~~~(s.reg rs &&& s.reg rb)) s)

/-- `nor[.] RA, RS, RB` (41_logical.md R247). -/
def execNor (ra rs rb : Gpr) (rc : Bool) (s : State) : Host.Outcome State Fault Refusal :=
  .next (logicalForm rc ra (~~~(s.reg rs ||| s.reg rb)) s)

/-- `eqv[.] RA, RS, RB` (41_logical.md R248). -/
def execEqv (ra rs rb : Gpr) (rc : Bool) (s : State) : Host.Outcome State Fault Refusal :=
  .next (logicalForm rc ra (~~~(s.reg rs ^^^ s.reg rb)) s)

/-- `andi. RA, RS, UI`; it always records (41_logical.md R249). -/
def execAndiDot (ra rs : Gpr) (ui : BitVec 16) (s : State) : Host.Outcome State Fault Refusal :=
  .next (logicalForm true ra (s.reg rs &&& zext16 ui) s)

/-- `andis. RA, RS, UI`; it always records (41_logical.md R250). -/
def execAndisDot (ra rs : Gpr) (ui : BitVec 16) (s : State) : Host.Outcome State Fault Refusal :=
  .next (logicalForm true ra (s.reg rs &&& place ui 0) s)

/-- `ori RA, RS, UI` (41_logical.md R251). -/
def execOri (ra rs : Gpr) (ui : BitVec 16) (s : State) : Host.Outcome State Fault Refusal :=
  .next (logicalForm false ra (s.reg rs ||| zext16 ui) s)

/-- `oris RA, RS, UI` (41_logical.md R252). -/
def execOris (ra rs : Gpr) (ui : BitVec 16) (s : State) : Host.Outcome State Fault Refusal :=
  .next (logicalForm false ra (s.reg rs ||| place ui 0) s)

/-- `xori RA, RS, UI` (41_logical.md R253). -/
def execXori (ra rs : Gpr) (ui : BitVec 16) (s : State) : Host.Outcome State Fault Refusal :=
  .next (logicalForm false ra (s.reg rs ^^^ zext16 ui) s)

/-- `xoris RA, RS, UI` (41_logical.md R254). -/
def execXoris (ra rs : Gpr) (ui : BitVec 16) (s : State) : Host.Outcome State Fault Refusal :=
  .next (logicalForm false ra (s.reg rs ^^^ place ui 0) s)

/-- `extsb[.] RA, RS` (41_logical.md R255). -/
def execExtsb (ra rs : Gpr) (rc : Bool) (s : State) : Host.Outcome State Fault Refusal :=
  .next (logicalForm rc ra ((bits (s.reg rs) 24 8).signExtend 32) s)

/-- `extsh[.] RA, RS` (41_logical.md R256). -/
def execExtsh (ra rs : Gpr) (rc : Bool) (s : State) : Host.Outcome State Fault Refusal :=
  .next (logicalForm rc ra (sext16 (bits (s.reg rs) 16 16)) s)

/-- `cntlzw[.] RA, RS` (41_logical.md R257). -/
def execCntlzw (ra rs : Gpr) (rc : Bool) (s : State) : Host.Outcome State Fault Refusal :=
  .next (logicalForm rc ra (BitVec.ofNat 32 (leadingZeros (s.reg rs) 32)) s)

end Sys2Proof.Machine
end

