-- ==== Sys2Proof/Machine/Rotate.lean ====
section
/-! DEFINITION. The rotate and shift instructions (42_rotate_shift.md). -/

namespace Sys2Proof.Machine

/-- A 32-bit result written to RA, with CR0 where the record bit is 1 (42_rotate_shift.md R271). -/
def rotateForm (rc : Bool) (ra : Gpr) (r : Word) (s : State) : State := (record rc r (s.setReg ra r)).advance

/-- A 64-bit result written to DA, with CR0 from the 64-bit result where the record bit is 1 (42_rotate_shift.md R279). -/
def rotateDwordForm (rc : Bool) (da : Vdr) (v : Dword) (s : State) : State := (recordDword rc v (s.setVdr da v)).advance

/-- The algebraic right shift's result and its CA, from the rotated word and the mask (42_rotate_shift.md R277). -/
def shiftAlgebraic (rs r m : Word) : Word × Bool :=
  let sign : Word := if bitAt rs 0 then BitVec.allOnes 32 else 0
  ((r &&& m) ||| (sign &&& ~~~m), bitAt rs 0 && decide (r &&& ~~~m ≠ 0))

/-- The 32-bit shift amount `(RB)[27:31]` (42_rotate_shift.md R275). -/
def shiftAmount (rb : Word) : Nat := (bits rb 27 5).toNat

/-- The 64-bit shift amount `(RB)[26:31]` (42_rotate_shift.md R284). -/
def shiftAmountDword (rb : Word) : Nat := (bits rb 26 6).toNat

/-- `rlwimi[.] RA, RS, SH, MB, ME` (42_rotate_shift.md R271). -/
def execRlwimi (ra rs : Gpr) (sh mb me : BitVec 5) (rc : Bool) (s : State) : Host.Outcome State Fault Refusal :=
  let m := mask32 mb.toNat me.toNat
  .next (rotateForm rc ra ((rotl32 (s.reg rs) sh.toNat &&& m) ||| (s.reg ra &&& ~~~m)) s)

/-- `rlwinm[.] RA, RS, SH, MB, ME` (42_rotate_shift.md R272). -/
def execRlwinm (ra rs : Gpr) (sh mb me : BitVec 5) (rc : Bool) (s : State) : Host.Outcome State Fault Refusal :=
  .next (rotateForm rc ra (rotl32 (s.reg rs) sh.toNat &&& mask32 mb.toNat me.toNat) s)

/-- `rlwnm[.] RA, RS, RB, MB, ME` (42_rotate_shift.md R273). -/
def execRlwnm (ra rs rb : Gpr) (mb me : BitVec 5) (rc : Bool) (s : State) : Host.Outcome State Fault Refusal :=
  .next (rotateForm rc ra (rotl32 (s.reg rs) (shiftAmount (s.reg rb)) &&& mask32 mb.toNat me.toNat) s)

/-- `slw[.] RA, RS, RB` (42_rotate_shift.md R275). -/
def execSlw (ra rs rb : Gpr) (rc : Bool) (s : State) : Host.Outcome State Fault Refusal :=
  let n := shiftAmount (s.reg rb)
  let m := if bitAt (s.reg rb) 26 then 0 else mask32 0 (31 - n)
  .next (rotateForm rc ra (rotl32 (s.reg rs) n &&& m) s)

/-- `srw[.] RA, RS, RB` (42_rotate_shift.md R276). -/
def execSrw (ra rs rb : Gpr) (rc : Bool) (s : State) : Host.Outcome State Fault Refusal :=
  let n := shiftAmount (s.reg rb)
  let m := if bitAt (s.reg rb) 26 then 0 else mask32 n 31
  .next (rotateForm rc ra (rotl32 (s.reg rs) (32 - n) &&& m) s)

/-- `sraw[.] RA, RS, RB` (42_rotate_shift.md R277). -/
def execSraw (ra rs rb : Gpr) (rc : Bool) (s : State) : Host.Outcome State Fault Refusal :=
  let n := shiftAmount (s.reg rb)
  let m := if bitAt (s.reg rb) 26 then 0 else mask32 n 31
  let r := shiftAlgebraic (s.reg rs) (rotl32 (s.reg rs) (32 - n)) m
  .next (rotateForm rc ra r.1 (setCA r.2 s))

/-- `srawi[.] RA, RS, SH` (42_rotate_shift.md R278). -/
def execSrawi (ra rs : Gpr) (sh : BitVec 5) (rc : Bool) (s : State) : Host.Outcome State Fault Refusal :=
  let r := shiftAlgebraic (s.reg rs) (rotl32 (s.reg rs) (32 - sh.toNat)) (mask32 sh.toNat 31)
  .next (rotateForm rc ra r.1 (setCA r.2 s))

/-- `rldicl[.] DA, DS, SH, MB`, on PPE 42X (42_rotate_shift.md R280). -/
def execRldicl (da ds : Vdr) (sh mb : BitVec 6) (rc : Bool) (s : State) : Host.Outcome State Fault Refusal :=
  .next (validForm s.isX s (rotateDwordForm rc da (rotl64 (s.vdr ds) sh.toNat &&& mask64 mb.toNat 63) s))

/-- `rldicr[.] DA, DS, SH, ME`, on PPE 42X (42_rotate_shift.md R281). -/
def execRldicr (da ds : Vdr) (sh me : BitVec 6) (rc : Bool) (s : State) : Host.Outcome State Fault Refusal :=
  .next (validForm s.isX s (rotateDwordForm rc da (rotl64 (s.vdr ds) sh.toNat &&& mask64 0 me.toNat) s))

/-- `rldimi[.] DA, DS, SH, MB`, on PPE 42X (42_rotate_shift.md R282). -/
def execRldimi (da ds : Vdr) (sh mb : BitVec 6) (rc : Bool) (s : State) : Host.Outcome State Fault Refusal :=
  let m := mask64 mb.toNat (63 - sh.toNat)
  .next (validForm s.isX s (rotateDwordForm rc da ((rotl64 (s.vdr ds) sh.toNat &&& m) ||| (s.vdr da &&& ~~~m)) s))

/-- `slvd[.] DA, DS, RB`, on PPE 42X (42_rotate_shift.md R284). -/
def execSlvd (da ds : Vdr) (rb : Gpr) (rc : Bool) (s : State) : Host.Outcome State Fault Refusal :=
  let n := shiftAmountDword (s.reg rb)
  let m := if bitAt (s.reg rb) 25 then 0 else mask64 0 (63 - n)
  .next (validForm s.isX s (rotateDwordForm rc da (rotl64 (s.vdr ds) n &&& m) s))

/-- `srvd[.] DA, DS, RB`, on PPE 42X (42_rotate_shift.md R285). -/
def execSrvd (da ds : Vdr) (rb : Gpr) (rc : Bool) (s : State) : Host.Outcome State Fault Refusal :=
  let n := shiftAmountDword (s.reg rb)
  let m := if bitAt (s.reg rb) 25 then 0 else mask64 n 63
  .next (validForm s.isX s (rotateDwordForm rc da (rotl64 (s.vdr ds) (64 - n) &&& m) s))

end Sys2Proof.Machine
end

