-- ==== Sys2Proof/Machine/Stack.lean ====
section
/-! DEFINITION. The stack frame and context instructions of the PPE 42X (47_stack.md). -/

namespace Sys2Proof.Machine

/-- What a doubleword of the frame holds (47_stack.md R402). -/
inductive Slot where
  | vdr (d : Vdr)
  | srr
  | xerCtr
  | crSprg0
  deriving DecidableEq, Repr

/-- `DW(1..2)` of a stack frame (47_stack.md R402). -/
def frameSlots : List Slot := [.vdr .d30, .vdr .d28]

/-- `DW(1..10)` of a context (47_stack.md R402). -/
def contextSlots : List Slot :=
  [.vdr .d30, .vdr .d28, .srr, .xerCtr, .vdr .d9, .vdr .d7, .vdr .d5, .vdr .d3, .vdr .d0, .crSprg0]

/-- The doubleword a store writes (47_stack.md R402). -/
def slotValue (x : Slot) (s : State) : Dword :=
  match x with
  | .vdr d => s.vdr d
  | .srr => dwordOf s.srr0 s.srr1
  | .xerCtr => dwordOf s.xer.value s.ctr
  | .crSprg0 => dwordOf s.cr0.value s.sprg0

/-- A GPR loaded from the frame; the stack pointer's own slot is discarded (47_stack.md R402). -/
def setRegUnless (sp r : Gpr) (v : Word) (s : State) : State := if r = sp then s else s.setReg r v

/-- The registers loaded from a doubleword, each under its own write rule (47_stack.md R402; log 19). -/
def loadSlot (sp : Gpr) (x : Slot) (v : Dword) (s : State) : State :=
  match x with
  | .vdr d => setRegUnless sp d.low (dwordLo v) (setRegUnless sp d.high (dwordHi v) s)
  | .srr => { s with srr0 := wordAlign (dwordHi v), srr1 := dwordLo v &&& msrMask }
  | .xerCtr => { s with xer := Xer.ofValue (dwordHi v), ctr := dwordLo v }
  | .crSprg0 => { s with cr0 := Cr0.ofValue (dwordHi v), sprg0 := dwordLo v }

/-- The loads of the doublewords from an address down, in order; the first failure stops them (47_stack.md R404, R405, R406). -/
def popSlots (sp : Gpr) (xs : List Slot) (a : Word) (s : State) : Access Unit :=
  match xs with
  | [] => .done () s
  | x :: xs =>
    match memRead .dword a s with
    | .done v t => popSlots sp xs (a - 8) (loadSlot sp x v t)
    | .taken t => .taken t

/-- The stores of the doublewords from an address down, in order (47_stack.md R405, R407, R408). -/
def pushSlots (xs : List Slot) (a : Word) (s : State) : Access Unit :=
  match xs with
  | [] => .done () s
  | x :: xs =>
    match memWrite .dword a (slotValue x s) s with
    | .done _ t => pushSlots xs (a - 8) t
    | .taken t => .taken t

/-- A pop: EDR, the doublewords, LR, and the stack pointer last (47_stack.md R401, R404, R406). -/
def popFrame (sp : Gpr) (xs : List Slot) (dd : BitVec 13) (s : State) : State :=
  let ea := s.reg sp + stackDisp dd
  match popSlots sp xs (ea - 8) { s with edr := ea } with
  | .taken t => t
  | .done _ t =>
    match memRead .word (ea + 4) t with
    | .taken u => u
    | .done v u => ({ u with lr := dwordLo v }.setReg sp ea).advance

/-- A push: LR, EDR, the doublewords, the back pointer, storage synchronisation, and the stack pointer last (47_stack.md R401, R407, R408,
R410). -/
def pushFrame (sp : Gpr) (xs : List Slot) (dd : BitVec 13) (s : State) : State :=
  let old := s.reg sp
  let ea := old + stackDisp dd
  match memWrite .word (old + 4) (s.lr.setWidth 64) s with
  | .taken t => t
  | .done _ t =>
    match pushSlots xs (old - 8) { t with edr := old } with
    | .taken u => u
    | .done _ u =>
      match memWrite .word ea (old.setWidth 64) u with
      | .taken v => v
      | .done _ v => synchronised v (v.setReg sp ea).advance

/-- What comes before the accesses: PPE 42X, the valid form (47_stack.md R409), and the core's own alignment check with EDR the stack
pointer (47_stack.md R400; log 21). -/
def stackForm (form store : Bool) (sp : Gpr) (s t : State) : State :=
  validForm (s.isX && form) s (if bits (s.reg sp) 29 3 = 0 then t else raise (.align store (s.reg sp)) s)

/-- `lsku RT, DD(RA)` (47_stack.md R404). -/
def execLsku (rt ra : Gpr) (dd : BitVec 13) (s : State) : Host.Outcome State Fault Refusal :=
  .next (stackForm (lskuForm rt ra dd) false ra s (popFrame ra (frameSlots.take (dd.toNat - 1)) dd s))

/-- `lcxu RT, DD(RA)` (47_stack.md R406). -/
def execLcxu (rt ra : Gpr) (dd : BitVec 13) (s : State) : Host.Outcome State Fault Refusal :=
  .next (stackForm (lcxuForm rt ra dd) false ra s (popFrame ra contextSlots dd s))

/-- `stsku RS, DD(RA)` (47_stack.md R407). -/
def execStsku (rs ra : Gpr) (dd : BitVec 13) (s : State) : Host.Outcome State Fault Refusal :=
  .next (stackForm (stskuForm rs ra dd) true ra s (pushFrame ra (frameSlots.take (~~~dd).toNat) dd s))

/-- `stcxu RS, DD(RA)` (47_stack.md R408). -/
def execStcxu (rs ra : Gpr) (dd : BitVec 13) (s : State) : Host.Outcome State Fault Refusal :=
  .next (stackForm (stcxuForm rs ra dd) true ra s (pushFrame ra contextSlots dd s))

end Sys2Proof.Machine
end

