-- ==== Sys2Proof/Machine/System.lean ====
section
/-! DEFINITION. The system, processor-control and trap instructions (49_system.md). -/

namespace Sys2Proof.Machine

/-- The context synchronisation of `mfmsr`, `mtmsr` and `rfi`, which ramming suppresses (49_system.md R453; 62_debug_xir.md R650). -/
def contextSync (s t : State) : State := if s.xsr.rip then t else synchronised s t

/-- `mfcr RT` (49_system.md R441). -/
def execMfcr (rt : Gpr) (s : State) : Host.Outcome State Fault Refusal := .next (s.setReg rt s.cr0.value).advance

/-- `mtcr0 RS`, that is `mtcrf 128, RS` (49_system.md R442). -/
def execMtcrf (rs : Gpr) (s : State) : Host.Outcome State Fault Refusal :=
  .next ({ s with cr0 := Cr0.ofValue (s.reg rs) } : State).advance

/-- `mfmsr RT` (49_system.md R443). -/
def execMfmsr (rt : Gpr) (s : State) : Host.Outcome State Fault Refusal :=
  .next (contextSync s (s.setReg rt s.msr).advance)

/-- `mtmsr RS` (49_system.md R444; log 16). What the new MSR unmasks is taken by the next step (R452). -/
def execMtmsr (rs : Gpr) (s : State) : Host.Outcome State Fault Refusal :=
  .next (contextSync s ({ s with msr := s.reg rs &&& msrMask } : State).advance)

/-- `mfspr RT, SPRN`; a reserved number is illegal (49_system.md R449). -/
def execMfspr (rt : Gpr) (sprn : BitVec 10) (s : State) : Host.Outcome State Fault Refusal :=
  .next (match readSpr sprn s with
    | some v => (s.setReg rt v).advance
    | none => illegal s)

/-- `mtspr SPRN, RS`; a reserved or read-only number is illegal (49_system.md R446). -/
def execMtspr (sprn : BitVec 10) (rs : Gpr) (s : State) : Host.Outcome State Fault Refusal :=
  .next (match writeSpr sprn (s.reg rs) s with
    | some t => t.advance
    | none => illegal s)

/-- `rfi`: the IAR from SRR0, the MSR from SRR1 (49_system.md R447; log 16). -/
def execRfi (s : State) : Host.Outcome State Fault Refusal := .next (contextSync s (returnFromInterrupt s))

/-- `tw TO, RA, RB` with TG (49_system.md R448): a mark, an illegal form, a trap interrupt or a trap halt. -/
def execTw (cond ra rb : BitVec 5) (tg : Bool) (s : State) : Host.Outcome State Fault Refusal :=
  .next (
    if s.isX && tg then s.advance
    else if !(definedGpr ra && definedGpr rb) then illegal s
    else if cond = 0 then s.advance
    else if cond ≠ 31 then illegal s
    else if bitAt s.dbcr 7 then debugHalt .trap s
    else raise (.program true) s)

/-- `wrtee RS`: MSR[EE] from bit 16 of RS (49_system.md R450). -/
def execWrtee (rs : Gpr) (s : State) : Host.Outcome State Fault Refusal :=
  .next ({ s with msr := setBit s.msr 16 (bitAt (s.reg rs) 16) } : State).advance

/-- `wrteei E` (49_system.md R451). -/
def execWrteei (e : Bool) (s : State) : Host.Outcome State Fault Refusal :=
  .next ({ s with msr := setBit s.msr 16 e } : State).advance

end Sys2Proof.Machine
end

