-- ==== Sys2Proof/Machine/Dispatch.lean ====
section
/-! DEFINITION. The meaning of each instruction, one arm per constructor (60_exceptions.md R505 step 8; 30_encoding.md R143 step 4). -/

namespace Sys2Proof.Machine
open Host

def exec (i : Instr) (s : State) : Host.Outcome State Fault Refusal :=
  match i with
  -- Arith
  | .add rt ra rb oe rc => Sys2Proof.Machine.execAdd rt ra rb oe rc s
  | .addc rt ra rb oe rc => Sys2Proof.Machine.execAddc rt ra rb oe rc s
  | .adde rt ra rb oe rc => Sys2Proof.Machine.execAdde rt ra rb oe rc s
  | .addi rt ra si => Sys2Proof.Machine.execAddi rt ra si s
  | .addic rt ra si => Sys2Proof.Machine.execAddic rt ra si s
  | .addicDot rt ra si => Sys2Proof.Machine.execAddicDot rt ra si s
  | .addis rt ra si => Sys2Proof.Machine.execAddis rt ra si s
  | .addme rt ra oe rc => Sys2Proof.Machine.execAddme rt ra oe rc s
  | .addze rt ra oe rc => Sys2Proof.Machine.execAddze rt ra oe rc s
  | .subf rt ra rb oe rc => Sys2Proof.Machine.execSubf rt ra rb oe rc s
  | .subfc rt ra rb oe rc => Sys2Proof.Machine.execSubfc rt ra rb oe rc s
  | .subfe rt ra rb oe rc => Sys2Proof.Machine.execSubfe rt ra rb oe rc s
  | .subfic rt ra si => Sys2Proof.Machine.execSubfic rt ra si s
  | .subfme rt ra oe rc => Sys2Proof.Machine.execSubfme rt ra oe rc s
  | .subfze rt ra oe rc => Sys2Proof.Machine.execSubfze rt ra oe rc s
  | .neg rt ra oe rc => Sys2Proof.Machine.execNeg rt ra oe rc s
  | .mulli rt ra si => Sys2Proof.Machine.execMulli rt ra si s
  | .mullw rt ra rb oe rc => Sys2Proof.Machine.execMullw rt ra rb oe rc s
  | .mullhw rt ra rb rc => Sys2Proof.Machine.execMullhw rt ra rb rc s
  | .mullhwu rt ra rb rc => Sys2Proof.Machine.execMullhwu rt ra rb rc s
  -- Logical
  | .and ra rs rb rc => Sys2Proof.Machine.execAnd ra rs rb rc s
  | .andc ra rs rb rc => Sys2Proof.Machine.execAndc ra rs rb rc s
  | .or ra rs rb rc => Sys2Proof.Machine.execOr ra rs rb rc s
  | .orc ra rs rb rc => Sys2Proof.Machine.execOrc ra rs rb rc s
  | .xor ra rs rb rc => Sys2Proof.Machine.execXor ra rs rb rc s
  | .nand ra rs rb rc => Sys2Proof.Machine.execNand ra rs rb rc s
  | .nor ra rs rb rc => Sys2Proof.Machine.execNor ra rs rb rc s
  | .eqv ra rs rb rc => Sys2Proof.Machine.execEqv ra rs rb rc s
  | .andiDot ra rs ui => Sys2Proof.Machine.execAndiDot ra rs ui s
  | .andisDot ra rs ui => Sys2Proof.Machine.execAndisDot ra rs ui s
  | .ori ra rs ui => Sys2Proof.Machine.execOri ra rs ui s
  | .oris ra rs ui => Sys2Proof.Machine.execOris ra rs ui s
  | .xori ra rs ui => Sys2Proof.Machine.execXori ra rs ui s
  | .xoris ra rs ui => Sys2Proof.Machine.execXoris ra rs ui s
  | .extsb ra rs rc => Sys2Proof.Machine.execExtsb ra rs rc s
  | .extsh ra rs rc => Sys2Proof.Machine.execExtsh ra rs rc s
  | .cntlzw ra rs rc => Sys2Proof.Machine.execCntlzw ra rs rc s
  -- Rotate
  | .rlwimi ra rs sh mb me rc => Sys2Proof.Machine.execRlwimi ra rs sh mb me rc s
  | .rlwinm ra rs sh mb me rc => Sys2Proof.Machine.execRlwinm ra rs sh mb me rc s
  | .rlwnm ra rs rb mb me rc => Sys2Proof.Machine.execRlwnm ra rs rb mb me rc s
  | .slw ra rs rb rc => Sys2Proof.Machine.execSlw ra rs rb rc s
  | .srw ra rs rb rc => Sys2Proof.Machine.execSrw ra rs rb rc s
  | .sraw ra rs rb rc => Sys2Proof.Machine.execSraw ra rs rb rc s
  | .srawi ra rs sh rc => Sys2Proof.Machine.execSrawi ra rs sh rc s
  | .rldicl da ds sh mb rc => Sys2Proof.Machine.execRldicl da ds sh mb rc s
  | .rldicr da ds sh me rc => Sys2Proof.Machine.execRldicr da ds sh me rc s
  | .rldimi da ds sh mb rc => Sys2Proof.Machine.execRldimi da ds sh mb rc s
  | .slvd da ds rb rc => Sys2Proof.Machine.execSlvd da ds rb rc s
  | .srvd da ds rb rc => Sys2Proof.Machine.execSrvd da ds rb rc s
  -- Compare
  | .cmpw ra rb => Sys2Proof.Machine.execCmpw ra rb s
  | .cmplw ra rb => Sys2Proof.Machine.execCmplw ra rb s
  | .cmpwi ra si => Sys2Proof.Machine.execCmpwi ra si s
  | .cmplwi ra ui => Sys2Proof.Machine.execCmplwi ra ui s
  -- Branch
  | .b li aa lk => Sys2Proof.Machine.execB li aa lk s
  | .bc bo bi bd aa lk => Sys2Proof.Machine.execBc bo bi bd aa lk s
  | .bcctr bo bi lk => Sys2Proof.Machine.execBcctr bo bi lk s
  | .bclr bo bi lk => Sys2Proof.Machine.execBclr bo bi lk s
  -- Fused
  | .cmpwbc px bix ra rb bdx lk => Sys2Proof.Machine.execCmpwbc px bix ra rb bdx lk s
  | .cmplwbc px bix ra rb bdx lk => Sys2Proof.Machine.execCmplwbc px bix ra rb bdx lk s
  | .cmpwibc px bix ra uix bdx lk => Sys2Proof.Machine.execCmpwibc px bix ra uix bdx lk s
  | .bnbwi px ra bnx bdx lk => Sys2Proof.Machine.execBnbwi px ra bnx bdx lk s
  | .bnbw px ra rb bdx lk => Sys2Proof.Machine.execBnbw px ra rb bdx lk s
  | .clrbwibc px ra bnx bdx lk => Sys2Proof.Machine.execClrbwibc px ra bnx bdx lk s
  | .clrbwbc px ra rb bdx lk => Sys2Proof.Machine.execClrbwbc px ra rb bdx lk s
  -- LoadStore
  | .lbz rt ra d => Sys2Proof.Machine.execLbz rt ra d s
  | .lbzu rt ra d => Sys2Proof.Machine.execLbzu rt ra d s
  | .lbzx rt ra rb => Sys2Proof.Machine.execLbzx rt ra rb s
  | .lhz rt ra d => Sys2Proof.Machine.execLhz rt ra d s
  | .lhzu rt ra d => Sys2Proof.Machine.execLhzu rt ra d s
  | .lhzx rt ra rb => Sys2Proof.Machine.execLhzx rt ra rb s
  | .lwz rt ra d => Sys2Proof.Machine.execLwz rt ra d s
  | .lwzu rt ra d => Sys2Proof.Machine.execLwzu rt ra d s
  | .lwzx rt ra rb => Sys2Proof.Machine.execLwzx rt ra rb s
  | .lvd dt ra d => Sys2Proof.Machine.execLvd dt ra d s
  | .lvdu dt ra d => Sys2Proof.Machine.execLvdu dt ra d s
  | .lvdx dt ra rb => Sys2Proof.Machine.execLvdx dt ra rb s
  | .stb rs ra d => Sys2Proof.Machine.execStb rs ra d s
  | .stbu rs ra d => Sys2Proof.Machine.execStbu rs ra d s
  | .stbx rs ra rb => Sys2Proof.Machine.execStbx rs ra rb s
  | .sth rs ra d => Sys2Proof.Machine.execSth rs ra d s
  | .sthu rs ra d => Sys2Proof.Machine.execSthu rs ra d s
  | .sthx rs ra rb => Sys2Proof.Machine.execSthx rs ra rb s
  | .stw rs ra d => Sys2Proof.Machine.execStw rs ra d s
  | .stwu rs ra d => Sys2Proof.Machine.execStwu rs ra d s
  | .stwx rs ra rb => Sys2Proof.Machine.execStwx rs ra rb s
  | .stvd ds ra d => Sys2Proof.Machine.execStvd ds ra d s
  | .stvdu ds ra d => Sys2Proof.Machine.execStvdu ds ra d s
  | .stvdx ds ra rb => Sys2Proof.Machine.execStvdx ds ra rb s
  -- Stack
  | .lsku rt ra dd => Sys2Proof.Machine.execLsku rt ra dd s
  | .lcxu rt ra dd => Sys2Proof.Machine.execLcxu rt ra dd s
  | .stsku rs ra dd => Sys2Proof.Machine.execStsku rs ra dd s
  | .stcxu rs ra dd => Sys2Proof.Machine.execStcxu rs ra dd s
  -- Cache
  | .dcbf ra rb => Sys2Proof.Machine.execDcbf ra rb s
  | .dcbi ra rb => Sys2Proof.Machine.execDcbi ra rb s
  | .dcbt ra rb => Sys2Proof.Machine.execDcbt ra rb s
  | .dcbz ra rb => Sys2Proof.Machine.execDcbz ra rb s
  | .dcbq rt ra rb => Sys2Proof.Machine.execDcbq rt ra rb s
  | .sync => Sys2Proof.Machine.execSync s
  -- System
  | .mfcr rt => Sys2Proof.Machine.execMfcr rt s
  | .mtcrf rs => Sys2Proof.Machine.execMtcrf rs s
  | .mfmsr rt => Sys2Proof.Machine.execMfmsr rt s
  | .mtmsr rs => Sys2Proof.Machine.execMtmsr rs s
  | .mfspr rt sprn => Sys2Proof.Machine.execMfspr rt sprn s
  | .mtspr sprn rs => Sys2Proof.Machine.execMtspr sprn rs s
  | .rfi => Sys2Proof.Machine.execRfi s
  | .tw cond ra rb tg => Sys2Proof.Machine.execTw cond ra rb tg s
  | .wrtee rs => Sys2Proof.Machine.execWrtee rs s
  | .wrteei e => Sys2Proof.Machine.execWrteei e s

end Sys2Proof.Machine
end

