-- ==== Sys2Proof/Machine/Timers.lean ====
section
/-! DEFINITION. One core clock cycle of the three timer facilities (61_timers.md R570 to R581; 92_eei_decisions.md D6). -/

namespace Sys2Proof.Machine

/-- Whether input `timer[n]` is active (61_timers.md R570). -/
def timerInput (timer : BitVec 4) (n : Nat) : Bool := timer.getMsbD n

/-- The decrement condition that TCR[DS] selects (61_timers.md R572). -/
def decCounts (timer : BitVec 4) (decTimer : Bool) (s : State) : Bool :=
  match (bits s.tcr 9 2).toNat with
  | 0 => true
  | 1 => timerInput timer 1
  | 2 => decTimer
  | _ => timerInput timer 3

/-- A hardware update of the TSR; DBCR[HDFI] suppresses it (61_timers.md R579; log 17). -/
def updateTsr (f : Word → Word) (s : State) : State := if s.statusFrozen then s else { s with tsr := f s.tsr }

/-- The decrementer: modulo 2^32, and TSR[DIS] where DEC bit 0 goes from 0 to 1 (61_timers.md R572). -/
def decrement (s : State) : State :=
  let t := { s with dec := s.dec - 1 }
  if !bitAt s.dec 0 && bitAt t.dec 0 then updateTsr (fun w => setBit w 4 true) t else t

/-- The action of TCR[WRC] on a second watchdog event (61_timers.md R577; 62_debug_xir.md R641, R642). -/
def watchdogAction (s : State) : State :=
  let wrc := bits s.tcr 2 2
  if wrc = 0 then s
  else
    let t := updateTsr (fun w => setField w 2 wrc) s
    let t := { t with tcr := setField t.tcr 2 (0 : BitVec 2), out := { t.out with watchdogTimeout := true } }
    if wrc = 1 then beginReset .soft false t
    else if wrc = 2 then beginReset .hard false t
    else
      let t := forceHalt 2 t
      { t with out := { t.out with error2 := true } }

/-- A watchdog event, by TSR[ENW] and TSR[WIS] (61_timers.md R577). -/
def watchdogEvent (s : State) : State :=
  if !bitAt s.tsr 0 then updateTsr (fun w => setBit w 0 true) s
  else if !bitAt s.tsr 1 then updateTsr (fun w => setBit w 1 true) s
  else watchdogAction s

/-- One cycle of the timers: nothing while they are frozen; else the decrementer, the fixed interval timer and the watchdog timer
(61_timers.md R572, R576, R577, R579). -/
def timerCycle (timer : BitVec 4) (decTimer : Bool) (s : State) : State :=
  if s.timersFrozen then s
  else
    let t := if decCounts timer decTimer s then decrement s else s
    let t := if timerInput timer (bits s.tcr 6 2).toNat then updateTsr (fun w => setBit w 5 true) t else t
    if timerInput timer (bits s.tcr 0 2).toNat then watchdogEvent t else t

end Sys2Proof.Machine
end

