-- ==== Sys2Proof/Machine/External.lean ====
section
/-! DEFINITION. The external interface registers and the other inputs from outside the core (62_debug_xir.md R600 to R616;
10_state.md R69, R76). -/

namespace Sys2Proof.Machine

/-! ### Reads -/

/-- XSR[EP]: ISR[EP], or its frozen value (10_state.md R69; 61_timers.md R579). -/
def State.xsrEp (s : State) : Bool := if s.statusFrozen then s.xsr.epHeld else s.ep

/-- XSR as the external agent reads it (10_state.md R69). -/
def State.xsrValue (s : State) : Word :=
  place (ofBool s.halted) 0 ||| place s.xsr.hc 1 ||| place (ofBool s.xsr.hcp) 4 ||| place (ofBool s.xsr.rip) 5
    ||| place (ofBool s.xsr.sip) 6 ||| place (ofBool s.xsr.trap) 7 ||| place (ofBool s.xsr.iac) 8 ||| place s.sibrc 9
    ||| place (ofBool s.xsr.rdac) 12 ||| place (ofBool s.xsr.wdac) 13 ||| place (ofBool s.we) 14
    ||| place (ofBool s.xsr.trh) 15 ||| place s.sms 16 ||| place (ofBool (bitAt s.msr 12)) 20
    ||| place (ofBool s.xsrEp) 21 ||| place (ofBool (s.isX && s.ee)) 22 ||| place (bits s.isr 24 2) 24
    ||| place (bits s.isr 28 4) 28

/-- The datum a read of a pair gives; none where it is not accepted (62_debug_xir.md R601, R602). XCR reads as 0. -/
def xirReadPair (p : XirPair) (s : State) : Option Dword :=
  match p with
  | .xcrCtr => if s.isX then some (dwordOf 0 s.ctr) else none
  | .xcrSprg0 => none
  | .irSprg0 => none
  | .xsrSprg0 => some (dwordOf s.xsrValue s.sprg0)
  | .irEdr => some (dwordOf s.ir s.edr)
  | .xsrIar => some (dwordOf s.xsrValue s.iar)
  | .srr0Lr => if s.isX then some (dwordOf s.srr0 s.lr) else none

/-- The datum a read of GPRs gives, where the instance has that access (62_debug_xir.md R608; log 27). -/
def xirReadGprPair (p : XirGprs) (s : State) : Option Dword :=
  if s.isX && s.cfg.xirGprAccess then
    some (match p with
      | .d0 => s.vdr .d0
      | .d2 => s.vdr .d2
      | .d4 => s.vdr .d4
      | .d6 => s.vdr .d6
      | .d8 => s.vdr .d8
      | .d28 => s.vdr .d28
      | .d30 => s.vdr .d30
      | .dx => dwordOf (s.reg .r10) (s.reg .r13))
  else none

/-! ### Commands -/

/-- The accepted XCR commands (62_debug_xir.md R610). -/
inductive XcrCommand where
  | clearDebug
  | halt
  | resume
  | singleStep
  | toggleTrh
  | softReset
  | hardReset
  | forceHalt
  deriving DecidableEq, Repr

/-- The command in bits 1:3 of a word written to XCR (62_debug_xir.md R610; 10_state.md R68). -/
def xcrCommand (w : Word) : XcrCommand :=
  match (bits w 1 3).toNat with
  | 0 => .clearDebug
  | 1 => .halt
  | 2 => .resume
  | 3 => .singleStep
  | 4 => .toggleTrh
  | 5 => .softReset
  | 6 => .hardReset
  | _ => .forceHalt

/-- Whether a command is accepted (62_debug_xir.md R602 h, i, j). -/
def XcrCommand.accepted (c : XcrCommand) (s : State) : Bool :=
  match c with
  | .clearDebug => s.halted
  | .resume => s.halted || !s.xsr.hcp
  | .singleStep => s.halted
  | .halt => true
  | .toggleTrh => true
  | .softReset => true
  | .hardReset => true
  | .forceHalt => true

/-- The effect of a command (62_debug_xir.md R610, R612, R616). -/
def XcrCommand.perform (c : XcrCommand) (s : State) : State :=
  match c with
  | .clearDebug => { s with xsr := { s.xsr with trap := false, iac := false, rdac := false, wdac := false } }
  | .halt => { s with xsr := { s.xsr with hcp := true } }
  | .resume => { s with xsr := { s.xsr with hcp := false, hc := 0 } }
  | .singleStep => { s with xsr := { s.xsr with sip := true, hc := 0 } }
  | .toggleTrh => { s with xsr := { s.xsr with trh := !s.xsr.trh } }
  | .softReset => beginReset .soft false s
  | .hardReset => beginReset .hard false s
  | .forceHalt => Sys2Proof.Machine.forceHalt 1 s

/-! ### Writes -/

/-- The write of the XSR: PPE 42X only, HC and the four debug event bits (62_debug_xir.md R602 m, R607). -/
def writeXsr (w : Word) (s : State) : State :=
  if s.isX then
    { s with xsr := { s.xsr with
        hc := bits w 1 3
        trap := bitAt w 7
        iac := bitAt w 8
        rdac := bitAt w 12
        wdac := bitAt w 13 } }
  else s

/-- The write of the IR: ramming begins (62_debug_xir.md R650). -/
def writeIr (w : Word) (s : State) : State := { s with ir := w, xsr := { s.xsr with rip := true, hc := 0 } }

/-- The state after an accepted write of a pair; none where it is not accepted (62_debug_xir.md R601, R602). -/
def xirWritePair (p : XirPair) (v : Dword) (s : State) : Option State :=
  let w0 := dwordHi v
  let w1 := dwordLo v
  let c := xcrCommand w0
  match p with
  | .xcrCtr => if c.accepted s then some (c.perform s) else none
  | .xcrSprg0 => if s.halted && c.accepted s then some (c.perform { s with sprg0 := w1 }) else none
  | .irSprg0 => if s.halted then some (writeIr w0 { s with sprg0 := w1 }) else none
  | .xsrSprg0 => if s.halted then some (writeXsr w0 { s with sprg0 := w1 }) else none
  | .irEdr => if s.halted then some (writeIr w0 s) else none
  | .xsrIar => if s.halted then some (writeXsr w0 { s with iar := wordAlign w1 }) else none
  | .srr0Lr => none

/-- The reply to a read (62_debug_xir.md R602, R603). -/
def replyData (v : Option Dword) : XirReply :=
  match v with
  | some d => .data d
  | none => .invalidAccess

/-- An XIR write and its reply; one that is not accepted changes nothing (62_debug_xir.md R602). -/
def xirWrite (p : XirPair) (v : Dword) (s : State) : State :=
  match xirWritePair p v s with
  | some t => { t with reply := some .accepted }
  | none => { s with reply := some .invalidAccess }

/-! ### The inputs -/

/-- What an input or another agent does between two steps of the core (10_state.md R76; 92_eei_decisions.md D6, D8; log 9). -/
def stimulate (e : Stimulus) (s : State) : State :=
  match e with
  | .run => s
  | .cycle timer decTimer => timerCycle timer decTimer s
  | .extIntr level => if s.statusFrozen then s else { s with pins := { s.pins with extIntr := level } }
  | .haltReq level => sampleHaltReq { s with pins := { s.pins with haltReq := level } }
  | .hresetReq level =>
    let t := { s with pins := { s.pins with hresetReq := level } }
    if level then beginReset .hard true t else t
  | .xirRead p => { s with reply := some (replyData (xirReadPair p s)) }
  | .xirReadGprs p => { s with reply := some (replyData (xirReadGprPair p s)) }
  | .xirWrite p v => xirWrite p v s
  | .memSys m => { s with sys := m }
  | .busWrite a b => { s with mem := writeByte s.mem a b }
  | .hardwareFailure =>
    let t := raiseHalt 7 s
    { t with out := { t.out with error0 := true } }

end Sys2Proof.Machine
end

