-- ==== Sys2Proof/Machine/Run.lean ====
section
/-! DEFINITION. One step of the machine: the per-instruction processing order, the halted state, stepping and ramming, a reset in progress,
and the environment's steps (60_exceptions.md R505; 62_debug_xir.md R621, R650, R654; 92_eei_decisions.md D6). -/

namespace Sys2Proof.Machine

/-- An instruction word is decoded and executed; a word that is no instruction is illegal (60_exceptions.md R505 step 4). -/
def runWord (w : Word) (s : State) : Host.Outcome State Fault Refusal :=
  match decode s.cfg.fcb w with
  | .ok i => exec i s
  | .error _ => .next (illegal s)

/-- The end of a stepped or rammed instruction: back in the halted state (62_debug_xir.md R650, R654). -/
def endInstruction (s : State) : State := { s with xsr := { s.xsr with rip := false, sip := false } }

/-- The end of an instruction in an outcome. -/
def finish (o : Host.Outcome State Fault Refusal) : Host.Outcome State Fault Refusal :=
  match o with
  | .next t => .next (endInstruction t)
  | .fault f => .fault f
  | .refused r => .refused r

/-- One pass of the processing order, from the asynchronous interrupts on (60_exceptions.md R505). -/
def onePass (s : State) : Host.Outcome State Fault Refusal :=
  match fetchNext s with
  | .done w t => runWord w t
  | .taken t => .next t

/-- A step of the core out of reset: halted it does nothing; ramming it runs the word in the IR; else it makes one pass
(62_debug_xir.md R621, R650, R654). -/
def instructionStep (s : State) : Host.Outcome State Fault Refusal :=
  if s.halted then .next s
  else if s.xsr.rip then finish (runWord s.ir s)
  else finish (onePass s)

/-- A step of the core: the level of `hreset_req`, a reset in progress, the level of `halt_req` (70_reset_and_hazards.md R702, R705;
62_debug_xir.md R626). -/
def coreStep (s : State) : Host.Outcome State Fault Refusal :=
  let t := sampleHresetReq s
  match t.resetting with
  | some r => .next (resetStep r t)
  | none => instructionStep (sampleHaltReq t)

/-- What every step begins with: the pulsed outputs and the last XIR reply end, and XSR[EP] follows ISR[EP] unless it is frozen
(62_debug_xir.md R642; 61_timers.md R579). -/
def beginStep (s : State) : State :=
  { s with
    out := {}
    reply := none
    xsr := { s.xsr with epHeld := if s.statusFrozen then s.xsr.epHeld else s.ep } }

/-- A step of the environment or of the core (92_eei_decisions.md D6; log 9). -/
def stepWith (e : Stimulus) (s : State) : Host.Outcome State Fault Refusal :=
  match e with
  | .run => coreStep s
  | e => .next (stimulate e s)

/-- The next step: the head of the stimuli, or the core where there is none (log 9). -/
def nextStep (s : State) : Host.Outcome State Fault Refusal :=
  let t := beginStep s
  match t.stimuli with
  | [] => coreStep t
  | e :: rest => stepWith e { t with stimuli := rest }

/-- Memory with an instruction word stored where the next fetch reads it (log 4). -/
def placeWord (nbits w : Nat) (s : State) : State :=
  { s with mem := writeWord s.mem s.iar (BitVec.ofNat 32 (w % 2 ^ nbits)) }

end Sys2Proof.Machine
end

