-- ==== Sys2Proof/WellFormed.lean ====
section
/-! DEFINITION. Which instructions are valid on a variant: variant gating (30_encoding.md R171) and the invalid forms (R178).
A decoded instruction that is not well formed is an illegal instruction (R176). -/

namespace Sys2Proof

/-- The 16 SPR numbers (10_state.md R52). -/
def sprNumbers : List (BitVec 10) := [1, 8, 9, 22, 26, 27, 61, 62, 63, 272, 286, 287, 308, 316, 336, 340]

/-- The SPRs no program can write: IVPR, PIR, PVR (10_state.md R52). -/
def readOnlySprs : List (BitVec 10) := [63, 286, 287]

/-- The defined GPR numbers (10_state.md R30). -/
def gprNumbers : List (BitVec 5) := [0, 1, 2, 3, 4, 5, 6, 7, 8, 9, 10, 13, 28, 29, 30, 31]

/-- A condition bit of CR0 (30_encoding.md R146: BI must be 0 to 3). -/
def validBi (bi : BitVec 5) : Bool := bi.toNat < 4

/-- A load with update names a base register that is neither 0 nor its target (46_load_store.md R352). -/
def validLoadUpdate (rt ra : Gpr) : Bool := ra ≠ .r0 && ra ≠ rt

/-- The displacement of `lsku`: positive (47_stack.md R409). -/
def validLsku (rt ra : Gpr) (dd : BitVec 13) : Bool :=
  ra ≠ .r0 && rt = ra && !dd.getMsbD 0 && dd.extractLsb' 0 12 ≠ 0

/-- The displacement of `lcxu`: at least 11 doublewords (47_stack.md R409). -/
def validLcxu (rt ra : Gpr) (dd : BitVec 13) : Bool :=
  ra ≠ .r0 && rt = ra && !dd.getMsbD 0 && 11 ≤ (dd.extractLsb' 0 12).toNat

/-- The displacement of `stsku`: negative (47_stack.md R409). -/
def validStsku (rs ra : Gpr) (dd : BitVec 13) : Bool :=
  ra ≠ .r0 && rs = ra && dd.getMsbD 0

/-- The displacement of `stcxu`: at most -11 doublewords (47_stack.md R409). -/
def validStcxu (rs ra : Gpr) (dd : BitVec 13) : Bool :=
  ra ≠ .r0 && rs = ra && dd.getMsbD 0 && (dd.extractLsb' 0 12).toNat ≤ 0xFF5

/-- `tw`: any operands as a tag on PPE 42X, else TO is 0 or 31 and both register fields are defined (49_system.md R448). -/
def validTw (v : Variant) (cond ra rb : BitVec 5) (tg : Bool) : Bool :=
  (tg && v = .ppe42x) || ((cond = 0 || cond = 31) && gprNumbers.contains ra && gprNumbers.contains rb)

/-- Whether an instruction is a valid form on a variant (30_encoding.md R171, R178). -/
def Instr.wellFormed (v : Variant) : Instr → Bool
  | .mulli _ _ _ | .mullw _ _ _ _ _ => v = .ppe42x
  | .rldicl _ _ _ _ _ | .rldicr _ _ _ _ _ | .rldimi _ _ _ _ _ | .slvd _ _ _ _ | .srvd _ _ _ _ => v = .ppe42x
  | .bc _ bi _ _ _ => validBi bi
  | .bcctr bo bi _ => validBi bi && bo.getMsbD 2
  | .bclr _ bi _ => validBi bi
  | .lbzu rt ra _ | .lhzu rt ra _ | .lwzu rt ra _ => validLoadUpdate rt ra
  | .lvdu dt ra _ => ra ≠ .r0 && ra ≠ dt.high && ra ≠ dt.low
  | .stbu _ ra _ | .sthu _ ra _ | .stwu _ ra _ | .stvdu _ ra _ => ra ≠ .r0
  | .lsku rt ra dd => v = .ppe42x && validLsku rt ra dd
  | .lcxu rt ra dd => v = .ppe42x && validLcxu rt ra dd
  | .stsku rs ra dd => v = .ppe42x && validStsku rs ra dd
  | .stcxu rs ra dd => v = .ppe42x && validStcxu rs ra dd
  | .mfspr _ n => sprNumbers.contains n
  | .mtspr n _ => sprNumbers.contains n && !readOnlySprs.contains n
  | .tw cond ra rb tg => validTw v cond ra rb tg
  | .add _ _ _ _ _ | .addc _ _ _ _ _ | .adde _ _ _ _ _ | .addi _ _ _ | .addic _ _ _ | .addicDot _ _ _ | .addis _ _ _
  | .addme _ _ _ _ | .addze _ _ _ _ | .subf _ _ _ _ _ | .subfc _ _ _ _ _ | .subfe _ _ _ _ _ | .subfic _ _ _
  | .subfme _ _ _ _ | .subfze _ _ _ _ | .neg _ _ _ _ | .mullhw _ _ _ _ | .mullhwu _ _ _ _
  | .and _ _ _ _ | .andc _ _ _ _ | .or _ _ _ _ | .orc _ _ _ _ | .xor _ _ _ _ | .nand _ _ _ _ | .nor _ _ _ _
  | .eqv _ _ _ _ | .andiDot _ _ _ | .andisDot _ _ _ | .ori _ _ _ | .oris _ _ _ | .xori _ _ _ | .xoris _ _ _
  | .extsb _ _ _ | .extsh _ _ _ | .cntlzw _ _ _
  | .rlwimi _ _ _ _ _ _ | .rlwinm _ _ _ _ _ _ | .rlwnm _ _ _ _ _ _ | .slw _ _ _ _ | .srw _ _ _ _ | .sraw _ _ _ _
  | .srawi _ _ _ _ | .cmpw _ _ | .cmplw _ _ | .cmpwi _ _ | .cmplwi _ _ | .b _ _ _
  | .cmpwbc _ _ _ _ _ _ | .cmplwbc _ _ _ _ _ _ | .cmpwibc _ _ _ _ _ _ | .bnbwi _ _ _ _ _ | .bnbw _ _ _ _ _
  | .clrbwibc _ _ _ _ _ | .clrbwbc _ _ _ _ _
  | .lbz _ _ _ | .lbzx _ _ _ | .lhz _ _ _ | .lhzx _ _ _ | .lwz _ _ _ | .lwzx _ _ _ | .lvd _ _ _ | .lvdx _ _ _
  | .stb _ _ _ | .stbx _ _ _ | .sth _ _ _ | .sthx _ _ _ | .stw _ _ _ | .stwx _ _ _ | .stvd _ _ _ | .stvdx _ _ _
  | .dcbf _ _ | .dcbi _ _ | .dcbt _ _ | .dcbz _ _ | .dcbq _ _ _ | .sync | .mfcr _ | .mtcrf _ | .mfmsr _ | .mtmsr _
  | .rfi | .wrtee _ | .wrteei _ => true

end Sys2Proof
end

