-- ==== Sys2Proof/Safety.lean ====
section
/-! DEFINITION. What a safe state is, and the terms that statements about the machine use: results as exact numbers, memory as bytes,
the conditions under which a request is granted (00_scope.md R12; 10_state.md R41, R45, R46; 20_memory.md R103). -/

namespace Sys2Proof.Machine

/-! ### The invariant -/

/-- No bit outside a mask is 1 (10_state.md R70). -/
def within (w m : Word) : Bool := decide (w &&& ~~~m = 0)

/-- An instruction address: bits 30:31 are 00 (10_state.md R34). -/
def aligned (a : Word) : Bool := decide (a &&& 3 = 0)

/-- Every reserved bit of the registers reads 0 (10_state.md R70). -/
def State.reservedClear (s : State) : Bool :=
  within s.msr msrMask && within s.srr1 msrMask && within s.isr isrMask && within s.tsr tsrMask &&
    within s.tcr (tcrMask s.cfg.variant) && within s.dbcr (dbcrMask s.cfg.variant)

/-- The control bits are consistent: a core that rams or steps has a halt condition and does one of the two; a halt code comes with a halt
condition (62_debug_xir.md R620, R622, R650, R654). -/
def State.controlConsistent (s : State) : Bool :=
  (s.xsr.hcp || (!s.xsr.rip && !s.xsr.sip && decide (s.xsr.hc = 0))) && !(s.xsr.rip && s.xsr.sip)

/-- The invariant of every state that a run reaches: memory is in canonical form, the instruction addresses are aligned, reserved bits
are 0, the control bits are consistent. -/
def State.Inv (s : State) : Prop :=
  Memory.wf s.mem = true ∧ (aligned s.iar && aligned s.srr0) = true ∧ s.reservedClear = true ∧ s.controlConsistent = true

/-! ### Terms of the statements -/

/-- The next instruction address where no branch is taken: CIA + 4, or the IAR itself while ramming modulo 2^32 (10_state.md R34;
62_debug_xir.md R650; log 14). -/
def State.nia (s : State) : Word := if s.xsr.rip then s.iar else s.iar + 4

/-- An exact number is outside the signed 32-bit numbers (10_state.md R45). -/
def overflows (n : Int) : Bool := decide (n < -2 ^ 31) || decide (2 ^ 31 ≤ n)

/-- CR0 of an exact number compared with 0, and a copy of XER[SO] (10_state.md R41). -/
def signOf (so : Bool) (n : Int) : Cr0 := ⟨decide (n < 0), decide (0 < n), decide (n = 0), so⟩

/-- The state after an instruction of the XO-form group: RT, CA, OV, SO, CR0 and the IAR; nothing else changes (40_arith.md R201). -/
def arithNext (s : State) (rt : Gpr) (carrying oe rc : Bool) (result : Word) (ca ov : Bool) : State :=
  let so := s.xer.so || (oe && ov)
  { s with
    gpr := s.gpr.set rt result
    xer := ⟨so, if oe then ov else s.xer.ov, if carrying then ca else s.xer.ca⟩
    cr0 := if rc then signOf so result.toInt else s.cr0
    iar := s.nia }

/-- `a + b + c`: the sum modulo 2^32, the carry out, and the signed overflow (40_arith.md R200). -/
def sumNext (s : State) (rt : Gpr) (carrying oe rc : Bool) (a b : Word) (c : Nat) : State :=
  arithNext s rt carrying oe rc (BitVec.ofNat 32 (a.toNat + b.toNat + c)) (decide (2 ^ 32 ≤ a.toNat + b.toNat + c))
    (overflows (a.toInt + b.toInt + c))

/-- `b - a - borrow`: the difference modulo 2^32, CA = no borrow, and the signed overflow (40_arith.md R200). -/
def differenceNext (s : State) (rt : Gpr) (carrying oe rc : Bool) (b a : Word) (borrow : Nat) : State :=
  arithNext s rt carrying oe rc (BitVec.ofInt 32 (b.toInt - a.toInt - borrow)) (decide (a.toNat + borrow ≤ b.toNat))
    (overflows (b.toInt - a.toInt - borrow))

/-- The state after one GPR is written, with CR0 of the result where it records (41_logical.md R240). -/
def wordNext (s : State) (rt : Gpr) (rc : Bool) (r : Word) : State :=
  { s with gpr := s.gpr.set rt r, cr0 := if rc then signOf s.xer.so r.toInt else s.cr0, iar := s.nia }

/-- The general registers with a doubleword in a register pair (10_state.md R33). -/
def Gprs.setPair (g : Gprs) (d : Vdr) (v : Dword) : Gprs := (g.set d.high (v.extractLsb' 32 32)).set d.low (v.setWidth 32)

/-- The state after one VDR is written, with CR0 of the 64-bit result where it records (42_rotate_shift.md R279; log 18). -/
def dwordNext (s : State) (d : Vdr) (rc : Bool) (v : Dword) : State :=
  { s with gpr := s.gpr.setPair d v, cr0 := if rc then signOf s.xer.so v.toInt else s.cr0, iar := s.nia }

/-- Bit `i` of a 32-bit mask from `mb` through `me`, wrapping (42_rotate_shift.md R270). -/
def inMask (mb me i : Nat) : Bool := if mb ≤ me then decide (mb ≤ i ∧ i ≤ me) else decide (mb ≤ i ∨ i ≤ me)

/-- The value of `n` bytes from an address on, big-endian (20_memory.md R103). -/
def bigEndian (m : List Host.Cell) (a : Word) : Nat → Nat
  | 0 => 0
  | n + 1 => bigEndian m a n * 256 + (readByte m (a + BitVec.ofNat 32 n)).toNat

/-- Byte `k` of the `n` low bytes of a value, the most significant first (20_memory.md R103). -/
def byteOf (v : Dword) (n k : Nat) : Byte := (v >>> (8 * (n - 1 - k))).setWidth 8

/-- Every byte of `m'` reads as in `m`, but the `n` bytes from an address on, which read as the low bytes of `v` (20_memory.md R103,
R111). -/
def storedAt (m m' : List Host.Cell) (a : Word) (n : Nat) (v : Dword) : Prop :=
  ∀ b : Word, readByte m' b = if (b - a).toNat < n then byteOf v n (b - a).toNat else readByte m b

/-- A data request succeeds: the memory subsystem accepts it, no enabled data compare matches its address (or the core is ramming), and
no imprecise error is to be reported at it (60_exceptions.md R505 steps 5 to 7). -/
def State.grants (s : State) (store : Bool) (a : Word) (n : Nat) : Prop :=
  s.sys.dataReply store a n = .ok ∧ (s.xsr.rip = true ∨ dacMatch store a s = false) ∧ s.reportsNow = false

/-- The request of each load and store: whether it stores, its size in bytes, its EA (46_load_store.md R350, R391). -/
def memoryRequest (i : Instr) (s : State) : Option (Bool × Nat × Word) :=
  match i with
  | .lbz _ ra d => some (false, 1, eaD s ra d)
  | .lbzu _ ra d => some (false, 1, eaU s ra d)
  | .lbzx _ ra rb => some (false, 1, eaX s ra rb)
  | .lhz _ ra d => some (false, 2, eaD s ra d)
  | .lhzu _ ra d => some (false, 2, eaU s ra d)
  | .lhzx _ ra rb => some (false, 2, eaX s ra rb)
  | .lwz _ ra d => some (false, 4, eaD s ra d)
  | .lwzu _ ra d => some (false, 4, eaU s ra d)
  | .lwzx _ ra rb => some (false, 4, eaX s ra rb)
  | .lvd _ ra d => some (false, 8, eaD s ra d)
  | .lvdu _ ra d => some (false, 8, eaU s ra d)
  | .lvdx _ ra rb => some (false, 8, eaX s ra rb)
  | .stb _ ra d => some (true, 1, eaD s ra d)
  | .stbu _ ra d => some (true, 1, eaU s ra d)
  | .stbx _ ra rb => some (true, 1, eaX s ra rb)
  | .sth _ ra d => some (true, 2, eaD s ra d)
  | .sthu _ ra d => some (true, 2, eaU s ra d)
  | .sthx _ ra rb => some (true, 2, eaX s ra rb)
  | .stw _ ra d => some (true, 4, eaD s ra d)
  | .stwu _ ra d => some (true, 4, eaU s ra d)
  | .stwx _ ra rb => some (true, 4, eaX s ra rb)
  | .stvd _ ra d => some (true, 8, eaD s ra d)
  | .stvdu _ ra d => some (true, 8, eaU s ra d)
  | .stvdx _ ra rb => some (true, 8, eaX s ra rb)
  | _ => none

/-- The address that a data compare sees of each load, store and cache instruction of one access, and whether it is store-type there
(62_debug_xir.md R632, R633; 60_exceptions.md R527). -/
def comparedAddress (i : Instr) (s : State) : Option (Bool × Word) :=
  match i with
  | .dcbf ra rb => some (decide (s.cfg.dcbfClass ≠ .load), eaX s ra rb)
  | .dcbi ra rb => some (true, eaX s ra rb)
  | .dcbt ra rb => some (false, eaX s ra rb)
  | .dcbz ra rb => some (true, eaX s ra rb)
  | .dcbq _ ra rb => some (false, eaX s ra rb)
  | i => (memoryRequest i s).map fun (store, _, ea) => (store, ea)

/-- The general registers after a load or store at `ea` is done: a load's target holds the value, RA of a form with update the EA
(46_load_store.md R351, R353). -/
def completedGprs (i : Instr) (s : State) (ea : Word) (v : Dword) : Gprs :=
  let g := s.gpr
  let w : Word := v.setWidth 32
  match i with
  | .lbz rt _ _ | .lbzx rt _ _ | .lhz rt _ _ | .lhzx rt _ _ | .lwz rt _ _ | .lwzx rt _ _ => g.set rt w
  | .lbzu rt ra _ | .lhzu rt ra _ | .lwzu rt ra _ => (g.set ra ea).set rt w
  | .lvd dt _ _ | .lvdx dt _ _ => g.setPair dt v
  | .lvdu dt ra _ => (g.set ra ea).setPair dt v
  | .stbu _ ra _ | .sthu _ ra _ | .stwu _ ra _ | .stvdu _ ra _ => g.set ra ea
  | _ => g

/-- The value of which a store writes the low bytes (46_load_store.md R350, R353). -/
def storedValue (i : Instr) (s : State) : Dword :=
  match i with
  | .stb rs _ _ | .stbu rs _ _ | .stbx rs _ _ | .sth rs _ _ | .sthu rs _ _ | .sthx rs _ _ | .stw rs _ _ | .stwu rs _ _
  | .stwx rs _ _ => (s.reg rs).setWidth 64
  | .stvd ds _ _ | .stvdu ds _ _ | .stvdx ds _ _ => s.vdr ds
  | _ => 0

/-- The state in which a SIB access has completed with a code: SIBRC holds it, SIBRCA has its bit (10_state.md R49). -/
def State.sibSeen (s : State) (c : BitVec 3) : State := { s with msr := setBit (setField s.msr 9 c) (24 + c.toNat) true }

/-- Where the word of a GPR stands in a context frame: its distance below the frame header (47_stack.md R402). -/
def contextOffset : Gpr → Option Nat
  | .r0 => some 72
  | .r1 => some 68
  | .r2 => none
  | .r3 => some 64
  | .r4 => some 60
  | .r5 => some 56
  | .r6 => some 52
  | .r7 => some 48
  | .r8 => some 44
  | .r9 => some 40
  | .r10 => some 36
  | .r13 => none
  | .r28 => some 16
  | .r29 => some 12
  | .r30 => some 8
  | .r31 => some 4

/-- The word at an address, big-endian (20_memory.md R103). -/
def wordAt (m : List Host.Cell) (a : Word) : Word := BitVec.ofNat 32 (bigEndian m a 4)

/-- The core makes a pass of the processing order: nothing from outside queued, no reset in progress or asked
for, not ramming, and no halt condition
unless it single-steps (62_debug_xir.md R621, R654). -/
def State.running (s : State) : Prop :=
  s.stimuli = [] ∧ s.resetting = none ∧ s.pins.hresetReq = false ∧ s.pins.haltReq = false ∧ s.xsr.rip = false ∧
    (s.xsr.hcp = false ∨ s.xsr.sip = true)

/-- The instruction at the IAR is fetched: no enabled asynchronous exception, not waiting, no instruction compare, the memory subsystem
gives the word, a SIB address with return code 0 (60_exceptions.md R505 steps 1 to 3; 10_state.md R49). -/
def State.fetches (s : State) : Prop :=
  s.asyncTaken = none ∧ s.we = false ∧ iacMatch s = false ∧ (s.sys.fetchReply s.iar = .ok ∨ s.sys.fetchReply s.iar = .sib 0)

/-- The state in which a decoded instruction runs: the word is in the IR, the last outputs and reply have ended (10_state.md R37). -/
def State.latched (s : State) (w : Word) : State :=
  { s with ir := w, out := {}, reply := none, xsr := { s.xsr with epHeld := if s.statusFrozen then s.xsr.epHeld else s.ep } }

/-- An interrupt is entered: SRR0, SRR1, the MSR with SIBRC and, where it stays, ME, and the vector (60_exceptions.md R510). -/
def State.entered (s : State) (offset : BitVec 9) (keepMe : Bool) (srr0 : Word) : State :=
  { s with
    srr0 := srr0 &&& ~~~3
    srr1 := s.msr
    msr := place s.sibrc 9 ||| place (ofBool (keepMe && s.me)) 19
    iar := place s.cfg.ivpr 0 ||| place offset 23 }

/-- The same, and the core halts at the vector: HC 011 unless it is locked, error output 2 (60_exceptions.md R530). -/
def State.haltedEntry (s : State) (offset : BitVec 9) (keepMe : Bool) (srr0 : Word) : State :=
  let t := s.entered offset keepMe srr0
  { t with
    xsr := { t.xsr with hcp := true, hc := if t.xsr.hc = 0 then 3 else t.xsr.hc }
    out := { t.out with error2 := true } }

/-- The vector of machine checks (60_exceptions.md R501). -/
def machineCheckOffset (v : Variant) : BitVec 9 :=
  match v with
  | .ppe42 => 0x000
  | .ppe42x => 0x020

/-- A machine check with codes recorded, taken or halting by MSR[ME] (60_exceptions.md R511). -/
def State.machineChecked (s : State) (mfe : Bool) (mcs : BitVec 3) (srr0 : Word) : State :=
  let t := { s with isr := setField s.isr 28 (ofBool mfe ++ mcs) }
  if s.me then t.entered (machineCheckOffset s.cfg.variant) false srr0
  else t.haltedEntry (machineCheckOffset s.cfg.variant) false srr0

/-- An unmaskable interrupt by MSR[UIE] and MSR[ME], its status already recorded (60_exceptions.md R506). -/
def State.dispatched (s : State) (offset : BitVec 9) (mcs : BitVec 3) : State :=
  if s.uie then s.entered offset true s.iar
  else if s.me then s.machineChecked false mcs s.iar
  else s.haltedEntry offset true s.iar

/-- The program interrupt of an illegal instruction, or of a trap (60_exceptions.md R523). -/
def State.programInterrupt (s : State) (trap : Bool) : State :=
  { s with isr := setBit s.isr 24 trap, edr := s.ir }.dispatched 0x0E0 4

/-- Pending imprecise store errors are reported in one machine check that gives the address `a`: MCS 011, MFE where there are several, SRR0
the instruction not executed; `f` is the free-value counter after it (60_exceptions.md R514, R517; log 23). -/
def State.errorsReported (s : State) (a : Word) (f : Nat) : State :=
  { s with edr := a, pending := [], free := f }.machineChecked (decide (2 ≤ s.pending.length)) 3 s.iar

/-- The data storage interrupt (60_exceptions.md R520). -/
def State.dataStorageInterrupt (s : State) (store : Bool) (a : Word) : State :=
  { s with isr := setBit s.isr 25 store, edr := a }.dispatched 0x060 7

/-- The alignment interrupt (60_exceptions.md R524). -/
def State.alignmentInterrupt (s : State) (store : Bool) (a : Word) : State :=
  { s with isr := setBit s.isr 25 store, edr := a }.dispatched 0x0C0 6

/-- A SIB code that is not 0 and that MSR[SEM] masks (20_memory.md R138). -/
def State.masks (s : State) (reply : DataReply) : Bool :=
  match reply with
  | .sib c => decide (c ≠ 0) && bitAt s.msr c.toNat
  | _ => false

/-- The error that a reply is to an access: its address, and whether it is store-type; `mcs` says whether the access is (20_memory.md
R126, R138; 60_exceptions.md R513, R514). -/
def State.replyError (s : State) (mcs : Bool) (a : Word) (reply : DataReply) : Option (Bool × Word) :=
  match reply with
  | .error => some (mcs, a)
  | .writeBack line => some (true, line)
  | .sib c => if c = 0 ∨ s.masks reply = true then none else some (mcs, a)
  | _ => none

/-- The state once a reply has come, before what comes of it: a SIB code is in SIBRC and SIBRCA (10_state.md R49). -/
def State.answered (s : State) (reply : DataReply) : State :=
  match reply with
  | .sib c => s.sibSeen c
  | _ => s

/-- The interrupt that a reply to an access at `a` is, if it is one: data storage, alignment, or a data machine check that is not reported
later, a store-type one in imprecise mode being so; `st` is ISR[ST] (20_memory.md R101, R125; 60_exceptions.md R513, R514, R520, R524). -/
def State.rejected (s : State) (st mcs : Bool) (a : Word) (reply : DataReply) : Option State :=
  match reply with
  | .dsi => some (s.dataStorageInterrupt st a)
  | .align => some (s.alignmentInterrupt st a)
  | _ =>
    match s.replyError mcs a reply with
    | some (store, e) =>
      if store ∧ s.impreciseMode = true then none
      else some ({ s.answered reply with edr := e }.machineChecked false (if store then 2 else 1) s.iar)
    | none => none

/-- The state once an access that is not rejected is done, but for its own effect: its SIB code is seen, its error is one to report later
(10_state.md R49; 20_memory.md R125). -/
def State.accepted (s : State) (mcs : Bool) (a : Word) (reply : DataReply) : State :=
  match s.replyError mcs a reply with
  | some (_, e) => { s.answered reply with pending := s.pending ++ [e] }
  | none => s.answered reply

/-- How an instruction whose access to `a` is not done ends, in the state that its earlier accesses left: the pending errors are reported at
the access, or the reply rejects it, or the pending errors are reported in place of that (60_exceptions.md R505 steps 6 and 7, R507,
R517). -/
def State.stopsWith (s : State) (st mcs : Bool) (a : Word) (reply : DataReply) (o : Host.Outcome State Fault Refusal) : Prop :=
  (s.reportsNow = true → ∃ e ∈ s.pending, ∃ f : Nat, o = .next (s.errorsReported e f)) ∧
  ∀ t : State, s.reportsNow = false → s.rejected st mcs a reply = some t →
    if s.pending = [] then o = .next t
    else ∃ e ∈ s.pending, ∃ f : Nat, o = .next ((s.answered reply).errorsReported e f)

/-- An access to `a` with a reply is done: no error is reported at it, and the reply does not reject it. -/
def State.goesOn (s : State) (st mcs : Bool) (a : Word) (reply : DataReply) : Prop :=
  s.reportsNow = false ∧ s.rejected st mcs a reply = none

/-- An access that is not rejected has its own effect and no error of its own: a write-back that it provoked is not its own
(20_memory.md R126). -/
def State.succeeds (s : State) (mcs : Bool) (a : Word) (reply : DataReply) : Prop :=
  s.masks reply = false ∧ ((∃ line, reply = .writeBack line) ∨ s.replyError mcs a reply = none)

/-- The doubleword of a frame, counted down from its header, in which the word at a distance below the header stands (47_stack.md R402). -/
def slotOf (distance : Nat) : Nat := (distance + 7) / 8

/-- The core halts with a debug event recorded: XSR bit, HCP, HC 100 unless it is locked, error output 3 (62_debug_xir.md R630, R632). -/
def State.debugHalted (s : State) (x : Xsr → Xsr) : State :=
  { s with
    xsr := { x s.xsr with hcp := true, hc := if s.xsr.hc = 0 then 4 else s.xsr.hc }
    out := { s.out with error3 := true } }

end Sys2Proof.Machine
end

