-- ==== Sys2Proof/Certificates/Slice0/Obligations.lean ====
section
/-! DEFINITION. The statements for the provers. -/

open Sys2Proof Sys2Proof.Machine

/-! ### Encoding, the invariant, the step -/

/-- Decoding the encoding of any instruction gives it back, for every value of every operand and every assignment of FCB_ENC that meets its
constraint (30_encoding.md R144 to R158, R160). The opcode numbers are PRESUMED (log 11). -/
def Obligations.DecodeInvertsEncode : Prop :=
  ∀ (e : FcbCodes) (i : Instr), e.injective = true → decode e (encode e i) = .ok i

/-- A few words written out from the spec's examples decode to their instructions (40_arith.md R202, 42_rotate_shift.md R280,
44_branch.md R312, 46_load_store.md R371, 47_stack.md R404, 49_system.md R446); the opcode numbers are PRESUMED (log 11). -/
def Obligations.SampleWordsDecode : Prop :=
  decode .placeholder 0x7C642A14 = .ok (.add .r3 .r4 .r5 false false) ∧
  decode .placeholder 0x78A34620 = .ok (.rldicl .d3 .d5 8 56 false) ∧
  decode .placeholder 0x4200FFFC = .ok (.bc 16 0 0x3FFF false false) ∧
  decode .placeholder 0x7FE42822 = .ok (.lvdx .d31 .r4 .r5) ∧
  decode .placeholder 0xE8210013 = .ok (.lsku .r1 .r1 2) ∧
  decode .placeholder 0x7C6903A6 = .ok (.mtspr 9 .r3)

/-- Every step from a state of the invariant ends in a state of the invariant. -/
def Obligations.StepKeepsInvariant : Prop := ∀ s t : State, s.Inv → step s = .next t → t.Inv

/-- The state after reset meets the invariant. -/
def Obligations.ResetMeetsInvariant : Prop := State.reset.Inv

/-- Every step, from any state, answers a next state, never a fault or a refusal, and no step changes the parameters of the instance
(00_scope.md R9). -/
def Obligations.StepAnswersNextAndKeepsParameters : Prop := ∀ s : State, ∃ t : State, step s = .next t ∧ t.cfg = s.cfg

/-- A running core executes the instruction whose word it fetches at the IAR; a rammed word is executed without a fetch
(60_exceptions.md R505; 62_debug_xir.md R650). -/
def Obligations.StepRunsDecodedInstruction : Prop :=
  (∀ (s : State) (i : Instr), s.running → s.fetches → decode s.cfg.fcb (readWord s.mem s.iar) = .ok i →
    step s = finish (exec i (s.latched (readWord s.mem s.iar)))) ∧
  (∀ (s : State) (i : Instr), s.stimuli = [] → s.resetting = none → s.pins.hresetReq = false → s.pins.haltReq = false →
    s.xsr.rip = true → decode s.cfg.fcb s.ir = .ok i → step s = finish (exec i (s.latched s.ir)))

/-- A word that is no instruction takes the program interrupt, with ISR[PTR] 0 and EDR the word, and so does an instruction that is not a
valid form on the variant, with no other effect (30_encoding.md R176, R178; 60_exceptions.md R523). That BI above 3 is invalid even where
BO says that the condition is not tested is the spec's decision D14 (log 13), and that RA = 0 is the only invalid form of `stvdu` its
decision D19 (log 20); `Instr.wellFormed` takes both. -/
def Obligations.IllegalInstructionTakesProgramInterrupt : Prop :=
  (∀ (s : State) (e : DecodeError), s.running → s.fetches → s.pending = [] →
    decode s.cfg.fcb (readWord s.mem s.iar) = .error e →
      step s = finish (.next ((s.latched (readWord s.mem s.iar)).programInterrupt false))) ∧
  (∀ (s : State) (i : Instr), i.wellFormed s.cfg.variant = false → s.pending = [] →
    exec i s = .next (s.programInterrupt false))

/-! ### Registers and memory -/

/-- A register written reads as written and no other register changes; a VDR is its two GPRs (10_state.md R32, R33). -/
def Obligations.RegistersReadAsWritten : Prop :=
  (∀ (g : Gprs) (r q : Gpr) (v : Word), (g.set r v).get q = if q = r then v else g.get q) ∧
  (∀ (s : State) (d : Vdr) (v : Dword), (s.setVdr d v).vdr d = v) ∧
  (∀ (s : State) (d : Vdr) (v : Dword) (q : Gpr), q ≠ d.high → q ≠ d.low → (s.setVdr d v).reg q = s.reg q)

/-- A write of 1, 2, 4 or 8 bytes stores them big-endian and changes no other byte; a read, and an instruction fetch, gives the big-endian
value of its bytes (20_memory.md R103). -/
def Obligations.MemoryIsBigEndian : Prop :=
  ∀ (w : Width) (m : List Host.Cell) (a : Word) (v : Dword),
    (Memory.wf m = true → Memory.wf (writeMem w m a v) = true ∧ storedAt m (writeMem w m a v) a w.bytes v) ∧
    (readMem w m a).toNat = bigEndian m a w.bytes ∧ (readWord m a).toNat = bigEndian m a 4

/-! ### Arithmetic -/

/-- The additions give the sum modulo 2^32, CA its carry out, OV and SO its signed overflow, and CR0 of the 32-bit result; `addi` and
`addis` add to the base register, or to 0 where the RA field is 0, and change no flag; nothing else changes (40_arith.md R200 to R210;
10_state.md R41, R45, R46). -/
def Obligations.AdditionResults : Prop :=
  ∀ (s : State) (rt ra rb : Gpr) (si : BitVec 16) (oe rc : Bool),
    let base : Word := if ra = .r0 then 0 else s.reg ra
    exec (.add rt ra rb oe rc) s = .next (sumNext s rt false oe rc (s.reg ra) (s.reg rb) 0) ∧
    exec (.addc rt ra rb oe rc) s = .next (sumNext s rt true oe rc (s.reg ra) (s.reg rb) 0) ∧
    exec (.adde rt ra rb oe rc) s = .next (sumNext s rt true oe rc (s.reg ra) (s.reg rb) s.xer.ca.toNat) ∧
    exec (.addme rt ra oe rc) s = .next (sumNext s rt true oe rc (s.reg ra) (-1) s.xer.ca.toNat) ∧
    exec (.addze rt ra oe rc) s = .next (sumNext s rt true oe rc (s.reg ra) 0 s.xer.ca.toNat) ∧
    exec (.addic rt ra si) s = .next (sumNext s rt true false false (s.reg ra) (si.signExtend 32) 0) ∧
    exec (.addicDot rt ra si) s = .next (sumNext s rt true false true (s.reg ra) (si.signExtend 32) 0) ∧
    exec (.addi rt ra si) s = .next { s with gpr := s.gpr.set rt (base + si.signExtend 32), iar := s.nia } ∧
    exec (.addis rt ra si) s = .next { s with gpr := s.gpr.set rt (base + si.setWidth 32 * 0x10000), iar := s.nia }

/-- The subtractions give the exact difference modulo 2^32, CA = no borrow, OV and SO of its signed overflow, and CR0 of the
32-bit result; nothing else changes (40_arith.md R200, R211 to R217; 10_state.md R41). -/
def Obligations.SubtractionResults : Prop :=
  ∀ (s : State) (rt ra rb : Gpr) (si : BitVec 16) (oe rc : Bool),
    exec (.subf rt ra rb oe rc) s = .next (differenceNext s rt false oe rc (s.reg rb) (s.reg ra) 0) ∧
    exec (.subfc rt ra rb oe rc) s = .next (differenceNext s rt true oe rc (s.reg rb) (s.reg ra) 0) ∧
    exec (.subfe rt ra rb oe rc) s = .next (differenceNext s rt true oe rc (s.reg rb) (s.reg ra) (1 - s.xer.ca.toNat)) ∧
    exec (.subfic rt ra si) s = .next (differenceNext s rt true false false (si.signExtend 32) (s.reg ra) 0) ∧
    exec (.subfme rt ra oe rc) s = .next (differenceNext s rt true oe rc (-1) (s.reg ra) (1 - s.xer.ca.toNat)) ∧
    exec (.subfze rt ra oe rc) s = .next (differenceNext s rt true oe rc 0 (s.reg ra) (1 - s.xer.ca.toNat)) ∧
    exec (.neg rt ra oe rc) s = .next (differenceNext s rt false oe rc 0 (s.reg ra) 0)

/-- The multiplies: the low 32 bits of the exact signed product and, for `mullw`, OV where it does not fit; the signed and the unsigned
product of the low halfwords (40_arith.md R218 to R221). -/
def Obligations.MultiplyResults : Prop :=
  ∀ (s : State) (rt ra rb : Gpr) (si : BitVec 16) (oe rc : Bool),
    (s.cfg.variant = .ppe42x →
      exec (.mulli rt ra si) s =
        .next { s with gpr := s.gpr.set rt (BitVec.ofInt 32 ((s.reg ra).toInt * si.toInt)), iar := s.nia }) ∧
    (s.cfg.variant = .ppe42x →
      exec (.mullw rt ra rb oe rc) s =
        .next (arithNext s rt false oe rc (BitVec.ofInt 32 ((s.reg ra).toInt * (s.reg rb).toInt)) false
          (overflows ((s.reg ra).toInt * (s.reg rb).toInt)))) ∧
    exec (.mullhw rt ra rb rc) s =
      .next (wordNext s rt rc
        (BitVec.ofInt 32 (((s.reg ra).setWidth 16).toInt * ((s.reg rb).setWidth 16).toInt))) ∧
    exec (.mullhwu rt ra rb rc) s =
      .next (wordNext s rt rc (BitVec.ofNat 32 ((s.reg ra).toNat % 2 ^ 16 * ((s.reg rb).toNat % 2 ^ 16))))

/-! ### Logical, rotate and shift, compare -/

/-- The logical instructions: the bitwise result in RA, CR0 where they record, nothing else. `extsb` and `extsh` keep the signed value of
the byte or halfword; `cntlzw` counts the 0 bits before the first 1 bit (41_logical.md R240 to R257). -/
def Obligations.LogicalResults : Prop :=
  ∀ (s : State) (ra rs rb : Gpr) (ui : BitVec 16) (rc : Bool),
    let a := s.reg rs
    let b := s.reg rb
    let low : Word := ui.setWidth 32
    let high : Word := ui.setWidth 32 <<< 16
    exec (.and ra rs rb rc) s = .next (wordNext s ra rc (a &&& b)) ∧
    exec (.andc ra rs rb rc) s = .next (wordNext s ra rc (a &&& ~~~b)) ∧
    exec (.or ra rs rb rc) s = .next (wordNext s ra rc (a ||| b)) ∧
    exec (.orc ra rs rb rc) s = .next (wordNext s ra rc (a ||| ~~~b)) ∧
    exec (.xor ra rs rb rc) s = .next (wordNext s ra rc (a ^^^ b)) ∧
    exec (.nand ra rs rb rc) s = .next (wordNext s ra rc (~~~a ||| ~~~b)) ∧
    exec (.nor ra rs rb rc) s = .next (wordNext s ra rc (~~~a &&& ~~~b)) ∧
    exec (.eqv ra rs rb rc) s = .next (wordNext s ra rc (~~~a ^^^ b)) ∧
    exec (.andiDot ra rs ui) s = .next (wordNext s ra true (a &&& low)) ∧
    exec (.andisDot ra rs ui) s = .next (wordNext s ra true (a &&& high)) ∧
    exec (.ori ra rs ui) s = .next (wordNext s ra false (a ||| low)) ∧
    exec (.oris ra rs ui) s = .next (wordNext s ra false (a ||| high)) ∧
    exec (.xori ra rs ui) s = .next (wordNext s ra false (a ^^^ low)) ∧
    exec (.xoris ra rs ui) s = .next (wordNext s ra false (a ^^^ high)) ∧
    exec (.extsb ra rs rc) s = .next (wordNext s ra rc (BitVec.ofInt 32 ((s.reg rs).setWidth 8).toInt)) ∧
    exec (.extsh ra rs rc) s = .next (wordNext s ra rc (BitVec.ofInt 32 ((s.reg rs).setWidth 16).toInt)) ∧
    ∃ n : Nat, n ≤ 32 ∧ (∀ i < n, bitAt (s.reg rs) i = false) ∧ (n < 32 → bitAt (s.reg rs) n = true) ∧
      exec (.cntlzw ra rs rc) s = .next (wordNext s ra rc (BitVec.ofNat 32 n))

/-- The 32-bit rotates, bit by bit: bit (i + n) mod 32 of the source inside the mask; outside it 0 or, for `rlwimi`, the old bit
(42_rotate_shift.md R270 to R273). -/
def Obligations.RotateResults : Prop :=
  ∀ (s : State) (ra rs rb : Gpr) (sh mb me : BitVec 5) (rc : Bool),
    (∃ r : Word, exec (.rlwimi ra rs sh mb me rc) s = .next (wordNext s ra rc r) ∧
      ∀ i < 32, bitAt r i =
        if inMask mb.toNat me.toNat i then bitAt (s.reg rs) ((i + sh.toNat) % 32) else bitAt (s.reg ra) i) ∧
    (∃ r : Word, exec (.rlwinm ra rs sh mb me rc) s = .next (wordNext s ra rc r) ∧
      ∀ i < 32, bitAt r i = (inMask mb.toNat me.toNat i && bitAt (s.reg rs) ((i + sh.toNat) % 32))) ∧
    (∃ r : Word, exec (.rlwnm ra rs rb mb me rc) s = .next (wordNext s ra rc r) ∧
      ∀ i < 32, bitAt r i = (inMask mb.toNat me.toNat i && bitAt (s.reg rs) ((i + (s.reg rb).toNat) % 32)))

/-- `slw` and `srw` multiply and divide by a power of two, 0 to 63; amounts from 32 on give 0. `sraw` and `srawi` divide the signed value
by a power of two, rounding down; CA says that a negative value was not divided exactly (42_rotate_shift.md R275 to R278; 10_state.md
R46). -/
def Obligations.ShiftResults : Prop :=
  ∀ (s : State) (ra rs rb : Gpr) (sh : BitVec 5) (rc : Bool),
    let n := (s.reg rb).toNat % 64
    let v := (s.reg rs).toInt
    let algebraic (n : Nat) : State :=
      { wordNext s ra rc (BitVec.ofInt 32 (v / 2 ^ n)) with
        xer := { s.xer with ca := decide (v < 0) && decide (v % 2 ^ n ≠ 0) } }
    exec (.slw ra rs rb rc) s = .next (wordNext s ra rc (BitVec.ofNat 32 ((s.reg rs).toNat * 2 ^ n))) ∧
    exec (.srw ra rs rb rc) s = .next (wordNext s ra rc (BitVec.ofNat 32 ((s.reg rs).toNat / 2 ^ n))) ∧
    exec (.sraw ra rs rb rc) s = .next (algebraic n) ∧
    exec (.srawi ra rs sh rc) s = .next (algebraic sh.toNat)

/-- The 64-bit rotates on a PPE 42X, bit by bit (42_rotate_shift.md R279 to R282). That the record forms compare the 64-bit result with 0 is
the spec's decision D16 (log 18). -/
def Obligations.DoublewordRotateResults : Prop :=
  ∀ (s : State) (da ds : Vdr) (sh m : BitVec 6) (rc : Bool), s.cfg.variant = .ppe42x →
    let rotated (i : Nat) : Bool := (s.vdr ds).getMsbD ((i + sh.toNat) % 64)
    (∃ v : Dword, exec (.rldicl da ds sh m rc) s = .next (dwordNext s da rc v) ∧
      ∀ i < 64, v.getMsbD i = (decide (m.toNat ≤ i) && rotated i)) ∧
    (∃ v : Dword, exec (.rldicr da ds sh m rc) s = .next (dwordNext s da rc v) ∧
      ∀ i < 64, v.getMsbD i = (decide (i ≤ m.toNat) && rotated i)) ∧
    (∃ v : Dword, exec (.rldimi da ds sh m rc) s = .next (dwordNext s da rc v) ∧
      ∀ i < 64, v.getMsbD i = if inMask m.toNat (63 - sh.toNat) i then rotated i else (s.vdr da).getMsbD i)

/-- `slvd` and `srvd` on a PPE 42X multiply and divide by a power of two, 0 to 127; amounts from 64 on give 0 (42_rotate_shift.md R284,
R285). That the record forms compare the 64-bit result with 0 is the spec's decision D16 (log 18). -/
def Obligations.DoublewordShiftResults : Prop :=
  ∀ (s : State) (da ds : Vdr) (rb : Gpr) (rc : Bool), s.cfg.variant = .ppe42x →
    let n := (s.reg rb).toNat % 128
    exec (.slvd da ds rb rc) s = .next (dwordNext s da rc (BitVec.ofNat 64 ((s.vdr ds).toNat * 2 ^ n))) ∧
    exec (.srvd da ds rb rc) s = .next (dwordNext s da rc (BitVec.ofNat 64 ((s.vdr ds).toNat / 2 ^ n)))

/-- The compares set CR0 from the signed or unsigned comparison, with a copy of XER[SO], and change nothing else (43_compare.md R301 to
R304). -/
def Obligations.CompareResults : Prop :=
  ∀ (s : State) (ra rb : Gpr) (imm : BitVec 16),
    let next (a b : Int) : State := { s with cr0 := signOf s.xer.so (a - b), iar := s.nia }
    exec (.cmpw ra rb) s = .next (next (s.reg ra).toInt (s.reg rb).toInt) ∧
    exec (.cmplw ra rb) s = .next (next (s.reg ra).toNat (s.reg rb).toNat) ∧
    exec (.cmpwi ra imm) s = .next (next (s.reg ra).toInt imm.toInt) ∧
    exec (.cmplwi ra imm) s = .next (next (s.reg ra).toNat imm.toNat)

/-- After every compare exactly one of LT, GT, EQ is 1: LT where the first operand is less, GT where it is greater, EQ where it is equal,
as signed or as unsigned numbers; CR0[SO] is XER[SO], which the compare leaves (43_compare.md R305). -/
def Obligations.CompareSetsExactlyOneBit : Prop :=
  ∀ (s : State) (ra rb : Gpr) (imm : BitVec 16) (i : Instr) (a b : Int),
    (i, a, b) ∈ [(Instr.cmpw ra rb, (s.reg ra).toInt, (s.reg rb).toInt),
      (.cmplw ra rb, ((s.reg ra).toNat : Int), ((s.reg rb).toNat : Int)), (.cmpwi ra imm, (s.reg ra).toInt, imm.toInt),
      (.cmplwi ra imm, ((s.reg ra).toNat : Int), (imm.toNat : Int))] →
      ∃ t : State, exec i s = .next t ∧ t.cr0.lt.toNat + t.cr0.gt.toNat + t.cr0.eq.toNat = 1 ∧
        (t.cr0.lt = true ↔ a < b) ∧ (t.cr0.gt = true ↔ b < a) ∧ (t.cr0.eq = true ↔ a = b) ∧ t.cr0.so = s.xer.so ∧ t.xer = s.xer

/-! ### Branches -/

/-- `b`, `bc`, `bclr` and `bcctr`: the CTR, the condition, the target, and LR = CIA + 4 where LK = 1, taken or not; nothing else changes
(44_branch.md R310 to R314). -/
def Obligations.BranchResults : Prop :=
  ∀ (s : State) (li : BitVec 24) (bo bi : BitVec 5) (bd : BitVec 14) (aa lk : Bool), aligned s.iar = true →
    let link : Word := if lk then s.iar + 4 else s.lr
    let ctr : Word := if bo.getMsbD 2 then s.ctr else s.ctr - 1
    let ctrOk := bo.getMsbD 2 || (decide (ctr = 0) == bo.getMsbD 3)
    let condOk := bo.getMsbD 0 || (bitAt s.cr0.value bi.toNat == bo.getMsbD 1)
    let base : Word := if aa then 0 else s.iar
    exec (.b li aa lk) s = .next { s with lr := link, iar := base + BitVec.ofInt 32 (li.toInt * 4) } ∧
    (bi.toNat < 4 → exec (.bc bo bi bd aa lk) s =
      .next { s with
        lr := link, ctr := ctr
        iar := if ctrOk && condOk then base + BitVec.ofInt 32 (bd.toInt * 4) else s.nia }) ∧
    (bi.toNat < 4 → exec (.bclr bo bi lk) s =
      .next { s with lr := link, ctr := ctr, iar := if ctrOk && condOk then s.lr &&& ~~~3 else s.nia }) ∧
    (bi.toNat < 4 → bo.getMsbD 2 = true → exec (.bcctr bo bi lk) s =
      .next { s with lr := link, iar := if condOk then s.ctr &&& ~~~3 else s.nia })

/-- The fused comparisons: CR0, the branch on its bit BIX (EQ for BIX = 3), the write-back of the difference where BIX = 3, and the link;
nothing else changes (45_fused_compare_branch.md R330 to R332, R338 to R340). -/
def Obligations.FusedCompareResults : Prop :=
  ∀ (s : State) (px : Bool) (bix : BitVec 2) (ra rb : Gpr) (uix : BitVec 5) (bdx : BitVec 10) (lk : Bool),
    aligned s.iar = true →
    let next (n : Int) (b : Word) : State :=
      let cr0 := signOf s.xer.so n
      let tested := if bix = 0 then cr0.lt else if bix = 1 then cr0.gt else cr0.eq
      { s with
        cr0 := cr0
        gpr := if bix = 3 then s.gpr.set ra (s.reg ra - b) else s.gpr
        lr := if lk then s.iar + 4 else s.lr
        iar := if px = tested then s.iar + BitVec.ofInt 32 (bdx.toInt * 4) else s.nia }
    exec (.cmpwbc px bix ra rb bdx lk) s = .next (next ((s.reg ra).toInt - (s.reg rb).toInt) (s.reg rb)) ∧
    exec (.cmplwbc px bix ra rb bdx lk) s = .next (next ((s.reg ra).toNat - (s.reg rb).toNat) (s.reg rb)) ∧
    exec (.cmpwibc px bix ra uix bdx lk) s = .next (next ((s.reg ra).toInt - uix.toNat) (uix.setWidth 32))

/-- The fused bit forms: the branch on whether bit n is 0, and on whether RA is 0 after bit n is cleared, with CR0 and the link
(45_fused_compare_branch.md R330 to R337). -/
def Obligations.FusedBitResults : Prop :=
  ∀ (s : State) (px : Bool) (ra rb : Gpr) (bnx : BitVec 5) (bdx : BitVec 10) (lk : Bool), aligned s.iar = true →
    let bit (n : Nat) : Word := BitVec.ofNat 32 (2 ^ (31 - n))
    let next (g : Gprs) (r : Word) : State :=
      { s with
        cr0 := signOf s.xer.so r.toInt
        gpr := g
        lr := if lk then s.iar + 4 else s.lr
        iar := if px = decide (r = 0) then s.iar + BitVec.ofInt 32 (bdx.toInt * 4) else s.nia }
    let tested (n : Nat) : State := next s.gpr (s.reg ra &&& bit n)
    let cleared (n : Nat) : State := next (s.gpr.set ra (s.reg ra &&& ~~~bit n)) (s.reg ra &&& ~~~bit n)
    exec (.bnbw px ra rb bdx lk) s = .next (tested ((s.reg rb).toNat % 32)) ∧
    exec (.bnbwi px ra bnx bdx lk) s = .next (tested bnx.toNat) ∧
    exec (.clrbwbc px ra rb bdx lk) s = .next (cleared ((s.reg rb).toNat % 32)) ∧
    exec (.clrbwibc px ra bnx bdx lk) s = .next (cleared bnx.toNat)

/-! ### Loads and stores -/

/-- A load whose request is granted puts the zero-extended big-endian value of its bytes into RT or the pair DT; nothing else changes
(46_load_store.md R350, R351, R353, R360 to R371). -/
def Obligations.LoadResults : Prop :=
  ∀ (s : State) (rt ra rb : Gpr) (dt : Vdr) (d : BitVec 16),
    let gpr (ea : Word) (n : Nat) : State :=
      { s with gpr := s.gpr.set rt (BitVec.ofNat 32 (bigEndian s.mem ea n)), iar := s.nia }
    let vdr (ea : Word) : State := { s with gpr := s.gpr.setPair dt (BitVec.ofNat 64 (bigEndian s.mem ea 8)), iar := s.nia }
    (s.grants false (eaD s ra d) 1 → exec (.lbz rt ra d) s = .next (gpr (eaD s ra d) 1)) ∧
    (s.grants false (eaX s ra rb) 1 → exec (.lbzx rt ra rb) s = .next (gpr (eaX s ra rb) 1)) ∧
    (s.grants false (eaD s ra d) 2 → exec (.lhz rt ra d) s = .next (gpr (eaD s ra d) 2)) ∧
    (s.grants false (eaX s ra rb) 2 → exec (.lhzx rt ra rb) s = .next (gpr (eaX s ra rb) 2)) ∧
    (s.grants false (eaD s ra d) 4 → exec (.lwz rt ra d) s = .next (gpr (eaD s ra d) 4)) ∧
    (s.grants false (eaX s ra rb) 4 → exec (.lwzx rt ra rb) s = .next (gpr (eaX s ra rb) 4)) ∧
    (s.grants false (eaD s ra d) 8 → exec (.lvd dt ra d) s = .next (vdr (eaD s ra d))) ∧
    (s.grants false (eaX s ra rb) 8 → exec (.lvdx dt ra rb) s = .next (vdr (eaX s ra rb)))

/-- A load with update, in a valid form and granted, also puts the EA into RA (46_load_store.md R351, R352). -/
def Obligations.LoadUpdateResults : Prop :=
  ∀ (s : State) (rt ra : Gpr) (dt : Vdr) (d : BitVec 16), ra ≠ .r0 →
    let ea := s.reg ra + d.signExtend 32
    let gpr (n : Nat) : State :=
      { s with gpr := (s.gpr.set ra ea).set rt (BitVec.ofNat 32 (bigEndian s.mem ea n)), iar := s.nia }
    (ra ≠ rt → s.grants false ea 1 → exec (.lbzu rt ra d) s = .next (gpr 1)) ∧
    (ra ≠ rt → s.grants false ea 2 → exec (.lhzu rt ra d) s = .next (gpr 2)) ∧
    (ra ≠ rt → s.grants false ea 4 → exec (.lwzu rt ra d) s = .next (gpr 4)) ∧
    (ra ≠ dt.high → ra ≠ dt.low → s.grants false ea 8 →
      exec (.lvdu dt ra d) s =
        .next { s with
          gpr := (s.gpr.set ra ea).setPair dt (BitVec.ofNat 64 (bigEndian s.mem ea 8))
          iar := s.nia })

/-- A store whose request is granted writes the low bytes of RS, or DS, at its EA; every other byte reads as before and no register
changes (46_load_store.md R350, R351, R353, R375 to R386). -/
def Obligations.StoreResults : Prop :=
  ∀ (s : State) (rs ra rb : Gpr) (ds : Vdr) (d : BitVec 16), Memory.wf s.mem = true →
    let stores (i : Instr) (ea : Word) (n : Nat) (v : Dword) : Prop :=
      ∃ m : List Host.Cell, exec i s = .next { s with mem := m, iar := s.nia } ∧ storedAt s.mem m ea n v
    let v : Dword := (s.reg rs).setWidth 64
    (s.grants true (eaD s ra d) 1 → stores (.stb rs ra d) (eaD s ra d) 1 v) ∧
    (s.grants true (eaX s ra rb) 1 → stores (.stbx rs ra rb) (eaX s ra rb) 1 v) ∧
    (s.grants true (eaD s ra d) 2 → stores (.sth rs ra d) (eaD s ra d) 2 v) ∧
    (s.grants true (eaX s ra rb) 2 → stores (.sthx rs ra rb) (eaX s ra rb) 2 v) ∧
    (s.grants true (eaD s ra d) 4 → stores (.stw rs ra d) (eaD s ra d) 4 v) ∧
    (s.grants true (eaX s ra rb) 4 → stores (.stwx rs ra rb) (eaX s ra rb) 4 v) ∧
    (s.grants true (eaD s ra d) 8 → stores (.stvd ds ra d) (eaD s ra d) 8 (s.vdr ds)) ∧
    (s.grants true (eaX s ra rb) 8 → stores (.stvdx ds ra rb) (eaX s ra rb) 8 (s.vdr ds))

/-- A store with update, in a valid form and granted, stores the old value at its EA and puts the EA into RA; RA may be RS
(46_load_store.md R351, R352, R376, R379, R382, R385). For `stvdu` the valid forms are the spec's decision D19 (log 20). -/
def Obligations.StoreUpdateResults : Prop :=
  ∀ (s : State) (rs ra : Gpr) (ds : Vdr) (d : BitVec 16), Memory.wf s.mem = true → ra ≠ .r0 →
    let ea := eaU s ra d
    let stores (i : Instr) (n : Nat) (v : Dword) : Prop :=
      ∃ m : List Host.Cell, exec i s = .next { s with mem := m, gpr := s.gpr.set ra ea, iar := s.nia } ∧ storedAt s.mem m ea n v
    let v : Dword := (s.reg rs).setWidth 64
    (s.grants true ea 1 → stores (.stbu rs ra d) 1 v) ∧
    (s.grants true ea 2 → stores (.sthu rs ra d) 2 v) ∧
    (s.grants true ea 4 → stores (.stwu rs ra d) 4 v) ∧
    (s.grants true ea 8 → stores (.stvdu ds ra d) 8 (s.vdr ds))

/-- A load or store whose address the memory subsystem rejects takes the data storage, the alignment or (in precise mode) the data machine
check interrupt with EDR its EA, and changes no general register and no memory (46_load_store.md R351; 60_exceptions.md R508, R513,
R514, R520, R524). A failed write-back that it provokes, a load too, is in precise mode a store-type machine check with EDR the line
(20_memory.md R126). That a failing store leaves memory unchanged is the model's choice (log 7). -/
def Obligations.RejectedAccessTakesInterrupt : Prop :=
  ∀ (s : State) (i : Instr) (store : Bool) (n : Nat) (ea : Word),
    memoryRequest i s = some (store, n, ea) → i.wellFormed s.cfg.variant = true → s.pending = [] →
    (s.xsr.rip = true ∨ dacMatch store ea s = false) →
    (s.sys.dataReply store ea n = .dsi → exec i s = .next (s.dataStorageInterrupt store ea)) ∧
    (s.sys.dataReply store ea n = .align → exec i s = .next (s.alignmentInterrupt store ea)) ∧
    (s.sys.dataReply store ea n = .error → (store = false ∨ s.impreciseMode = false) →
      exec i s = .next ({ s with edr := ea }.machineChecked false (if store then 2 else 1) s.iar)) ∧
    (∀ line : Word, s.sys.dataReply store ea n = .writeBack line → s.impreciseMode = false →
      exec i s = .next ({ s with edr := line }.machineChecked false 2 s.iar))

/-- When a data compare matches, and what it does, for every load, store and cache instruction (62_debug_xir.md R632, R633, R635). It
matches where DBCR[DACE] enables the type of the access (and, on a PPE 42, DBCR[IACE] is 0) and the EA equals the DACR (on a PPE 42X
without the low bits that DBCR[ACS] leaves out), or where a PPE 42X with DBCR[ZACE] accesses address 0. A match halts the core before the
access with nothing else changed; no match, or a match while ramming, sets no debug event and no error output 3. That the EA alone is
compared is the spec's decision D10 (log 15); by the instance's `DCBF_IS_STORE` `dcbf` is a store here unless it is a load everywhere. -/
def Obligations.DataCompareHalts : Prop :=
  ∀ (s : State) (i : Instr) (store : Bool) (ea : Word),
    comparedAddress i s = some (store, ea) → i.wellFormed s.cfg.variant = true →
    let ignored : Nat := match s.cfg.variant with
      | .ppe42 => 0
      | .ppe42x => match (bits s.dbcr 24 2).toNat with
        | 0 => 0
        | 1 => 2
        | 2 => 3
        | _ => 5
    let enabled : Prop :=
      bitAt s.dbcr (if store then 13 else 12) = true ∧ (s.cfg.variant = .ppe42 → bitAt s.dbcr 8 = false)
    let hit : Prop :=
      (enabled ∧ ea.toNat / 2 ^ ignored = s.dacr.toNat / 2 ^ ignored) ∨
        (s.cfg.variant = .ppe42x ∧ bitAt s.dbcr 29 = true ∧ ea = 0)
    (dacMatch store ea s = true ↔ hit) ∧
    (hit → s.xsr.rip = false →
      exec i s = .next (s.debugHalted fun x => if store then { x with wdac := true } else { x with rdac := true })) ∧
    ((¬ hit ∨ s.xsr.rip = true) → ∃ t : State, exec i s = .next t ∧
      t.xsr.rdac = s.xsr.rdac ∧ t.xsr.wdac = s.xsr.wdac ∧ t.xsr.iac = s.xsr.iac ∧ t.xsr.trap = s.xsr.trap ∧
        t.out.error3 = s.out.error3)

/-- A load or store that the SIB answers with code c writes SIBRC and accumulates SIBRCA[c], whatever comes of it (10_state.md R49;
20_memory.md R138). With c = 0 it is done. With another code that MSR[SEM] masks it is done too, and nothing fixes the value loaded or
the bytes left (log 22). With one that is not masked it is a data machine check, or, for a store in imprecise mode, an error to report
later. That the access that issues is the one that SIBRC and SIBRCA record, also where its error is deferred, is the model's choice
(log 38), and so is that such a store writes no byte (log 7). -/
def Obligations.SibReturnCodes : Prop :=
  ∀ (s : State) (i : Instr) (store : Bool) (n : Nat) (ea : Word) (c : BitVec 3),
    memoryRequest i s = some (store, n, ea) → i.wellFormed s.cfg.variant = true → Memory.wf s.mem = true → s.pending = [] →
    (s.xsr.rip = true ∨ dacMatch store ea s = false) → s.sys.dataReply store ea n = .sib c →
    let done (v : Dword) : State := { s.sibSeen c with gpr := completedGprs i s ea v, iar := s.nia }
    (c = 0 → store = false → exec i s = .next (done (BitVec.ofNat 64 (bigEndian s.mem ea n)))) ∧
    (c = 0 → store = true → ∃ m : List Host.Cell,
      exec i s = .next { done 0 with mem := m } ∧ storedAt s.mem m ea n (storedValue i s)) ∧
    (c ≠ 0 → bitAt s.msr c.toNat = true → store = false → ∃ v : Dword, v.toNat < 256 ^ n ∧
      exec i s = .next { done v with free := s.free + 1 }) ∧
    (c ≠ 0 → bitAt s.msr c.toNat = true → store = true → ∃ (m : List Host.Cell) (v : Dword),
      exec i s = .next { done 0 with mem := m, free := s.free + 1 } ∧ storedAt s.mem m ea n v) ∧
    (c ≠ 0 → bitAt s.msr c.toNat = false → (store = false ∨ s.impreciseMode = false) →
      exec i s = .next ({ s.sibSeen c with edr := ea }.machineChecked false (if store then 2 else 1) s.iar)) ∧
    (c ≠ 0 → bitAt s.msr c.toNat = false → store = true → s.impreciseMode = true →
      exec i s = .next { done 0 with pending := [ea] })

/-- Imprecise store errors (20_memory.md R125, R126; 60_exceptions.md R507, R517). A load or store reports the errors pending, without being
executed, where it is rammed, where the instance reports them at accesses, or where as many are pending as the instance allows, which is
the model's choice (log 23); an exception of its own is replaced by their report. Else it is done and they stay pending: in imprecise
mode a store with an error, and a load or store that provokes a failed write-back, add the address of the error. That a store with an
error writes no byte is the model's choice (log 7). -/
def Obligations.ImpreciseStoreErrors : Prop :=
  ∀ (s : State) (i : Instr) (store : Bool) (n : Nat) (ea : Word),
    memoryRequest i s = some (store, n, ea) → i.wellFormed s.cfg.variant = true → Memory.wf s.mem = true →
    (s.xsr.rip = true ∨ dacMatch store ea s = false) →
    let reply := s.sys.dataReply store ea n
    let done (v : Dword) : State := { s.accepted store ea reply with gpr := completedGprs i s ea v, iar := s.nia }
    (s.reportsNow = true ↔
      s.pending ≠ [] ∧ (s.xsr.rip = true ∨ s.cfg.reportAtAccess = true ∨ s.cfg.maxStores ≤ s.pending.length)) ∧
    s.stopsWith store store ea reply (exec i s) ∧
    (s.goesOn store store ea reply → s.masks reply = false →
      (store = false → exec i s = .next (done (BitVec.ofNat 64 (bigEndian s.mem ea n)))) ∧
      (store = true → s.succeeds store ea reply → ∃ m : List Host.Cell,
        exec i s = .next { done 0 with mem := m } ∧ storedAt s.mem m ea n (storedValue i s)) ∧
      (store = true → ¬ s.succeeds store ea reply → exec i s = .next (done 0)))

/-! ### The stack instructions -/

/-- `lsku` pops a frame of DD doublewords: GPR 30 and 31 from DD = 2 on, 28 and 29 from DD = 3 on, but the stack pointer itself, which takes
the EA; LR and EDR (47_stack.md R401, R402, R404). -/
def Obligations.StackPopResult : Prop :=
  ∀ (s : State) (ra : Gpr) (dd : BitVec 13),
    let ea := s.reg ra + BitVec.ofNat 32 (dd.toNat * 8)
    s.cfg.variant = .ppe42x → ra ≠ .r0 → 1 ≤ dd.toNat → dd.toNat ≤ 4095 → (s.reg ra).toNat % 8 = 0 →
    s.grants false (ea + 4) 4 → (2 ≤ dd.toNat → s.grants false (ea - 8) 8) → (3 ≤ dd.toNat → s.grants false (ea - 16) 8) →
    ∃ g : Gprs,
      exec (.lsku ra ra dd) s = .next { s with gpr := g, lr := wordAt s.mem (ea + 4), edr := ea, iar := s.nia } ∧
      ∀ r : Gpr, g.get r =
        if r = ra then ea
        else if 2 ≤ dd.toNat ∧ r = .r30 then wordAt s.mem (ea - 8)
        else if 2 ≤ dd.toNat ∧ r = .r31 then wordAt s.mem (ea - 4)
        else if 3 ≤ dd.toNat ∧ r = .r28 then wordAt s.mem (ea - 16)
        else if 3 ≤ dd.toNat ∧ r = .r29 then wordAt s.mem (ea - 12)
        else s.reg r

/-- `lcxu` pops a context: every GPR but 2 and 13 from its place in the frame, the stack pointer from the EA, and LR, EDR, SRR0, SRR1, XER,
CTR, CR0, SPRG0 under their own write rules (47_stack.md R401, R402, R406). That CR and XER drop the bits of their words that have no
storage is the spec's decision D17 (log 19). -/
def Obligations.ContextPopResult : Prop :=
  ∀ (s : State) (ra : Gpr) (dd : BitVec 13),
    let ea := s.reg ra + BitVec.ofNat 32 (dd.toNat * 8)
    let word (k : Nat) : Word := wordAt s.mem (ea - BitVec.ofNat 32 k)
    s.cfg.variant = .ppe42x → ra ≠ .r0 → 11 ≤ dd.toNat → dd.toNat ≤ 4095 → (s.reg ra).toNat % 8 = 0 →
    s.grants false (ea + 4) 4 → (∀ k, 1 ≤ k → k ≤ 10 → s.grants false (ea - BitVec.ofNat 32 (8 * k)) 8) →
    ∃ g : Gprs,
      exec (.lcxu ra ra dd) s =
        .next { s with
          gpr := g
          lr := wordAt s.mem (ea + 4)
          edr := ea
          srr0 := word 24 &&& ~~~3
          srr1 := word 20 &&& msrMask
          xer := ⟨bitAt (word 32) 0, bitAt (word 32) 1, bitAt (word 32) 2⟩
          ctr := word 28
          cr0 := ⟨bitAt (word 80) 0, bitAt (word 80) 1, bitAt (word 80) 2, bitAt (word 80) 3⟩
          sprg0 := word 76
          iar := s.nia } ∧
      ∀ r : Gpr, g.get r =
        if r = ra then ea
        else match contextOffset r with
          | some k => word k
          | none => s.reg r

/-- `stsku` pushes a frame of k doublewords: LR into the caller's frame, GPR 30 and 31 from k = 2 on, 28 and 29 from k = 3 on, the back
pointer at the new stack pointer; every other byte reads as before; RA and EDR (47_stack.md R401, R402, R407, R410). -/
def Obligations.StackPushResult : Prop :=
  ∀ (s : State) (ra : Gpr) (dd : BitVec 13),
    let k := 8192 - dd.toNat
    let sp := s.reg ra
    let ea := sp - BitVec.ofNat 32 (8 * k)
    s.cfg.variant = .ppe42x → ra ≠ .r0 → 4096 ≤ dd.toNat → sp.toNat % 8 = 0 → Memory.wf s.mem = true → s.pending = [] →
    s.grants true (sp + 4) 4 → (2 ≤ k → s.grants true (sp - 8) 8) → (3 ≤ k → s.grants true (sp - 16) 8) → s.grants true ea 4 →
    ∃ m : List Host.Cell,
      exec (.stsku ra ra dd) s = .next { s with gpr := s.gpr.set ra ea, mem := m, edr := sp, iar := s.nia } ∧
      wordAt m (sp + 4) = s.lr ∧ wordAt m ea = sp ∧
      (2 ≤ k → wordAt m (sp - 8) = s.reg .r30 ∧ wordAt m (sp - 4) = s.reg .r31) ∧
      (3 ≤ k → wordAt m (sp - 16) = s.reg .r28 ∧ wordAt m (sp - 12) = s.reg .r29) ∧
      ∀ b : Word, 4 ≤ (b - (sp + 4)).toNat → 4 ≤ (b - ea).toNat → (2 ≤ k → 8 ≤ (b - (sp - 8)).toNat) →
        (3 ≤ k → 8 ≤ (b - (sp - 16)).toNat) → readByte m b = readByte s.mem b

/-- `stcxu` pushes a context: LR, every GPR but 2 and 13, SRR0, SRR1, XER, CTR, CR0, SPRG0 at their places and the back pointer; every other
byte reads as before; RA and EDR (47_stack.md R401, R402, R408, R410). -/
def Obligations.ContextPushResult : Prop :=
  ∀ (s : State) (ra : Gpr) (dd : BitVec 13),
    let k := 8192 - dd.toNat
    let sp := s.reg ra
    let ea := sp - BitVec.ofNat 32 (8 * k)
    s.cfg.variant = .ppe42x → ra ≠ .r0 → 4096 ≤ dd.toNat → 11 ≤ k → sp.toNat % 8 = 0 → Memory.wf s.mem = true →
    s.pending = [] → s.grants true (sp + 4) 4 →
    (∀ j, 1 ≤ j → j ≤ 10 → s.grants true (sp - BitVec.ofNat 32 (8 * j)) 8) → s.grants true ea 4 →
    ∃ m : List Host.Cell,
      exec (.stcxu ra ra dd) s = .next { s with gpr := s.gpr.set ra ea, mem := m, edr := sp, iar := s.nia } ∧
      wordAt m (sp + 4) = s.lr ∧ wordAt m ea = sp ∧
      (∀ r j, contextOffset r = some j → wordAt m (sp - BitVec.ofNat 32 j) = s.reg r) ∧
      wordAt m (sp - 24) = s.srr0 ∧ wordAt m (sp - 20) = s.srr1 ∧ wordAt m (sp - 32) = s.xer.value ∧
      wordAt m (sp - 28) = s.ctr ∧ wordAt m (sp - 80) = s.cr0.value ∧ wordAt m (sp - 76) = s.sprg0 ∧
      ∀ b : Word, 4 ≤ (b - (sp + 4)).toNat → 4 ≤ (b - ea).toNat → 80 ≤ (b - (sp - 80)).toNat → readByte m b = readByte s.mem b

/-- A valid stack instruction whose stack pointer is not a multiple of 8 takes the alignment interrupt before any access
(47_stack.md R400; the EDR is the model's choice D20, log 21). -/
def Obligations.MisalignedStackTakesAlignment : Prop :=
  ∀ (s : State) (ra : Gpr) (dd : BitVec 13) (i : Instr) (store : Bool),
    (i, store) ∈ [(Instr.lsku ra ra dd, false), (.lcxu ra ra dd, false), (.stsku ra ra dd, true), (.stcxu ra ra dd, true)] →
    i.wellFormed s.cfg.variant = true → (s.reg ra).toNat % 8 ≠ 0 → s.pending = [] →
      exec i s = .next (s.alignmentInterrupt store (s.reg ra))

/-- `lsku` and `lcxu` stopped at a load, the k doublewords before it granted and loaded (47_stack.md R404 to R406). A data compare of its
address halts the core there; a reply that rejects it is its interrupt, with EDR its address; errors pending are reported at it, or in
place of its exception. The GPRs and SPRs of the k doublewords have their values from memory; RA, LR and every other register are
unchanged. That each load is compared by its own address, with those before it done, is the spec's decision D10 (log 15), and that CR and
XER drop the bits of their words that have no storage its decision D17 (log 19). When the errors pending are reported, all in one machine
check with EDR one of them, is the model's choice (log 23). An earlier load that is answered with a SIB code or a failed write-back is not
in this statement. -/
def Obligations.StackPopStops : Prop :=
  ∀ (s : State) (ra : Gpr) (dd : BitVec 13) (i : Instr) (n k : Nat),
    (i, n) ∈ [(Instr.lsku ra ra dd, min (dd.toNat - 1) 2), (.lcxu ra ra dd, 10)] →
    i.wellFormed s.cfg.variant = true → (s.reg ra).toNat % 8 = 0 → k ≤ n →
    let ea := s.reg ra + BitVec.ofNat 32 (dd.toNat * 8)
    let word (d : Nat) : Word := wordAt s.mem (ea - BitVec.ofNat 32 d)
    (∀ j, 1 ≤ j → j ≤ k → s.grants false (ea - BitVec.ofNat 32 (8 * j)) 8) →
    let a := if k < n then ea - BitVec.ofNat 32 (8 * (k + 1)) else ea + 4
    let reply := s.sys.dataReply false a (if k < n then 8 else 4)
    ∃ g : Gprs,
      (∀ r : Gpr, g.get r =
        match contextOffset r with
        | some d => if slotOf d ≤ k ∧ r ≠ ra then word d else s.reg r
        | none => s.reg r) ∧
      let t : State :=
        { s with
          gpr := g
          edr := ea
          srr0 := if 3 ≤ k then word 24 &&& ~~~3 else s.srr0
          srr1 := if 3 ≤ k then word 20 &&& msrMask else s.srr1
          xer := if 4 ≤ k then ⟨bitAt (word 32) 0, bitAt (word 32) 1, bitAt (word 32) 2⟩ else s.xer
          ctr := if 4 ≤ k then word 28 else s.ctr
          cr0 := if 10 ≤ k then ⟨bitAt (word 80) 0, bitAt (word 80) 1, bitAt (word 80) 2, bitAt (word 80) 3⟩ else s.cr0
          sprg0 := if 10 ≤ k then word 76 else s.sprg0 }
      (s.xsr.rip = false → dacMatch false a s = true →
        exec i s = .next (t.debugHalted fun x => { x with rdac := true })) ∧
      ((s.xsr.rip = true ∨ dacMatch false a s = false) → t.stopsWith false false a reply (exec i s))

/-- `stsku` and `stcxu` stopped at a store, the k stores before it done: a data compare of its address halts the core there; a reply that
rejects it is its interrupt, with EDR its address; errors pending are reported instead. The bytes of the k stores are written and no
other; RA is unchanged (47_stack.md R405, R407, R408). In imprecise mode errors pending, or of its own stores, are reported before it
completes, RA unchanged (R410). That each store is compared by its own address is the spec's decision D10 (log 15); that a store with an
error writes no byte (log 7), and when in the instruction the errors are reported (log 23), are the model's choices. -/
def Obligations.StackPushStops : Prop :=
  ∀ (s : State) (ra : Gpr) (dd : BitVec 13) (i : Instr) (n : Nat),
    (i, n) ∈ [(Instr.stsku ra ra dd, min (8191 - dd.toNat) 2), (.stcxu ra ra dd, 10)] →
    i.wellFormed s.cfg.variant = true → (s.reg ra).toNat % 8 = 0 → Memory.wf s.mem = true →
    let sp := s.reg ra
    let ea := sp - BitVec.ofNat 32 (8 * (8192 - dd.toNat))
    let access (k : Nat) : Word × Nat :=
      if k = 0 then (sp + 4, 4) else if k ≤ n then (sp - BitVec.ofNat 32 (8 * k), 8) else (ea, 4)
    let reply (k : Nat) : DataReply := s.sys.dataReply true (access k).1 (access k).2
    (∀ k ≤ n + 1, (∀ j < k, s.grants true (access j).1 (access j).2) → ∃ m : List Host.Cell,
      (1 ≤ k → wordAt m (sp + 4) = s.lr) ∧
      (∀ r d, contextOffset r = some d → slotOf d < k → wordAt m (sp - BitVec.ofNat 32 d) = s.reg r) ∧
      (3 < k → wordAt m (sp - 24) = s.srr0 ∧ wordAt m (sp - 20) = s.srr1) ∧
      (4 < k → wordAt m (sp - 32) = s.xer.value ∧ wordAt m (sp - 28) = s.ctr) ∧
      (10 < k → wordAt m (sp - 80) = s.cr0.value ∧ wordAt m (sp - 76) = s.sprg0) ∧
      (∀ b : Word, (1 ≤ k → 4 ≤ (b - (sp + 4)).toNat) → 8 * (k - 1) ≤ (b - (sp - BitVec.ofNat 32 (8 * (k - 1)))).toNat →
        readByte m b = readByte s.mem b) ∧
      let t : State := { s with mem := m, edr := if k = 0 then s.edr else sp }
      (s.xsr.rip = false → dacMatch true (access k).1 s = true →
        exec i s = .next (t.debugHalted fun x => { x with wdac := true })) ∧
      ((s.xsr.rip = true ∨ dacMatch true (access k).1 s = false) →
        t.stopsWith true true (access k).1 (reply k) (exec i s))) ∧
    (s.impreciseMode = true →
      (∀ k ≤ n + 1, (s.xsr.rip = true ∨ dacMatch true (access k).1 s = false) ∧ (reply k = .ok ∨ reply k = .error)) →
      (s.pending ≠ [] ∨ ∃ k ≤ n + 1, reply k = .error) →
      ∃ (t : State) (e : Word) (f : Nat), exec i s = .next (t.errorsReported e f) ∧ e ∈ t.pending ∧
        t = { s with mem := t.mem, edr := t.edr, pending := t.pending } ∧
        (∀ x ∈ t.pending, x ∈ s.pending ∨ ∃ k ≤ n + 1, reply k = .error ∧ x = (access k).1) ∧
        ∀ b : Word, 4 ≤ (b - (sp + 4)).toNat → 8 * n ≤ (b - (sp - BitVec.ofNat 32 (8 * n))).toNat → 4 ≤ (b - ea).toNat →
          readByte t.mem b = readByte s.mem b)

/-! ### Cache management and synchronisation -/

/-- The cache instructions but `dcbz`, and `sync`, where no data compare stops them (48_cache_sync.md R420 to R424, R426; 20_memory.md R101,
R126; 60_exceptions.md R513, R514, R527). With no data cache `dcbf`, `dcbi` and `dcbt` only advance, or take the data storage interrupt
that a load (`dcbf`, `dcbt`) or a store (`dcbi`) of the byte at EA would take, and `dcbq` always gives a word whose bit 31 is 0. With one,
its answer too may be a data storage, alignment or SIB answer, an error, or a failed write-back, with the class of the instruction,
load-type for `dcbf` unless the instance has it a store everywhere (90_conflicts.md C2); `dcbq` gives the word of its query address, with
the answers of a load, or the load-type data storage interrupt where there is none. An error that is to be reported later joins those
pending, and errors pending come first. The model's choices in it: the byte at EA gives the permission for the block (log 8); with a data
cache `dcbf` and `dcbi` change no byte of memory, for what blocks it holds is left out (log 28); an alignment interrupt of `dcbi` has
ISR[ST] 1 (log 39); when errors pending are reported, all in one machine check with EDR one of them (log 23); and that a masked SIB code
gives `dcbq` a free word (log 22). -/
def Obligations.CacheOperationsResults : Prop :=
  ∀ (s : State) (rt ra rb : Gpr),
    let ea := eaX s ra rb
    let own : CacheReplies := match s.sys.regionAt ea with
      | some r => r.cacheOps
      | none => {}
    let reply (store : Bool) (r : DataReply) : DataReply :=
      if s.sys.dataReply store ea 1 = .dsi then .dsi else if s.cfg.hasDcache then r else .ok
    let clear (store : Bool) : Prop := s.xsr.rip = true ∨ dacMatch store ea s = false
    let ends (i : Instr) (st : Bool) (r : DataReply) : Prop :=
      s.stopsWith st st ea r (exec i s) ∧
      (s.goesOn st st ea r → exec i s = .next { s.accepted st ea r with iar := s.nia })
    let flushIsStore := decide (s.cfg.dcbfClass = .store)
    (clear (decide (s.cfg.dcbfClass ≠ .load)) → ends (.dcbf ra rb) flushIsStore (reply false own.flush)) ∧
    (clear true → ends (.dcbi ra rb) true (reply true own.invalidate)) ∧
    (clear false → ends (.dcbt ra rb) false (reply false own.touch)) ∧
    (clear false → s.cfg.hasDcache = false →
      s.stopsWith false false ea .ok (exec (.dcbq rt ra rb) s) ∧
      (s.reportsNow = false → ∃ v : Word, bitAt v 31 = false ∧
        exec (.dcbq rt ra rb) s = .next { s with gpr := s.gpr.set rt v, iar := s.nia })) ∧
    (clear false → s.cfg.hasDcache = true →
      ((∀ q ∈ s.sys.queries, q.qa ≠ ea) → s.stopsWith false false ea .dsi (exec (.dcbq rt ra rb) s)) ∧
      (∀ q : Query, s.sys.queries.find? (fun q => decide (q.qa = ea)) = some q →
        s.stopsWith false false ea q.reply (exec (.dcbq rt ra rb) s) ∧
        (s.goesOn false false ea q.reply → s.masks q.reply = false →
          exec (.dcbq rt ra rb) s =
            .next { s.accepted false ea q.reply with gpr := s.gpr.set rt q.word, iar := s.nia }) ∧
        (s.goesOn false false ea q.reply → s.masks q.reply = true → ∃ v : Word,
          exec (.dcbq rt ra rb) s =
            .next { s.accepted false ea q.reply with gpr := s.gpr.set rt v, free := s.free + 1, iar := s.nia }))) ∧
    (s.pending = [] → exec .sync s = .next { s with iar := s.nia })

/-- `dcbz` where no data compare stops it (48_cache_sync.md R425; 20_memory.md R117, R138; 60_exceptions.md R514, R520, R524). It has the
data storage interrupt, the error and the SIB code of a store, and those of the data cache where there is one; where the region neither
emulates it nor is cached, the alignment interrupt, with ISR[ST] 1; outside every region the data storage interrupt. Done, it sets every
byte of the block that holds its EA to 0 and changes nothing else; with a SIB code that is masked the block is free (log 22). The model's
choices in it: the EA's own byte answers for the block (log 8), which of several answers counts (log 6), a cached block is set to 0 in
memory (log 28), a `dcbz` with an error to report later writes no byte (log 7), and when errors pending are reported, all in one machine
check with EDR one of them (log 23). -/
def Obligations.BlockZeroResults : Prop :=
  (∀ (s : State) (ra rb : Gpr) (r : Region), Memory.wf s.mem = true →
      let ea := eaX s ra rb
      let size := s.cfg.blockBytes
      s.sys.regionAt ea = some r → (s.xsr.rip = true ∨ dacMatch true ea s = false) →
      let zeroed := r.dcbz || (s.cfg.hasDcache && r.cacheable)
      let store := s.sys.dataReply true ea 1
      let answer : DataReply := if s.cfg.hasDcache then store.worse r.cacheOps.zero else store
      let reply : DataReply := if zeroed ∨ answer = .dsi then answer else .align
      let next (m : List Host.Cell) : State := { s.accepted true ea reply with mem := m, iar := s.nia }
      s.stopsWith true true ea reply (exec (.dcbz ra rb) s) ∧
      (s.goesOn true true ea reply →
        (s.succeeds true ea reply → ∃ m : List Host.Cell, exec (.dcbz ra rb) s = .next (next m) ∧
          ∀ b : Word, readByte m b = if b.toNat / size = ea.toNat / size then 0 else readByte s.mem b) ∧
        (s.masks reply = true → ∃ m : List Host.Cell, exec (.dcbz ra rb) s = .next { next m with free := s.free + size } ∧
          ∀ b : Word, b.toNat / size ≠ ea.toNat / size → readByte m b = readByte s.mem b) ∧
        (¬ s.succeeds true ea reply → s.masks reply = false → exec (.dcbz ra rb) s = .next (next s.mem)))) ∧
  (∀ (s : State) (ra rb : Gpr),
    let ea := eaX s ra rb
    s.sys.regionAt ea = none → (s.xsr.rip = true ∨ dacMatch true ea s = false) →
      s.stopsWith true true ea .dsi (exec (.dcbz ra rb) s))

/-! ### System instructions -/

/-- The moves of CR and MSR, and the writes of MSR[EE] (49_system.md R441 to R444, R450, R451). That `mtmsr` writes MSR[SIBRC] is the spec's
decision D12 (log 16). -/
def Obligations.StatusMoveResults : Prop :=
  ∀ (s : State) (r : Gpr) (e : Bool),
    (∃ v : Word, exec (.mfcr r) s = .next { s with gpr := s.gpr.set r v, iar := s.nia } ∧
      v.extractLsb' 28 4 = ofBool s.cr0.lt ++ ofBool s.cr0.gt ++ ofBool s.cr0.eq ++ ofBool s.cr0.so ∧
      v.extractLsb' 0 28 = 0) ∧
    exec (.mtcrf r) s =
      .next { s with
        cr0 := ⟨bitAt (s.reg r) 0, bitAt (s.reg r) 1, bitAt (s.reg r) 2, bitAt (s.reg r) 3⟩
        iar := s.nia } ∧
    (s.pending = [] ∨ s.xsr.rip = true →
      exec (.mfmsr r) s = .next { s with gpr := s.gpr.set r s.msr, iar := s.nia } ∧
      ∃ v : Word, exec (.mtmsr r) s = .next { s with msr := v, iar := s.nia } ∧
        ∀ i < 32, bitAt v i = (bitAt (s.reg r) i && !decide (i ∈ [0, 17, 18, 22]))) ∧
    (∃ v : Word, exec (.wrtee r) s = .next { s with msr := v, iar := s.nia } ∧
      ∀ i < 32, bitAt v i = if i = 16 then bitAt (s.reg r) 16 else bitAt s.msr i) ∧
    (∃ v : Word, exec (.wrteei e) s = .next { s with msr := v, iar := s.nia } ∧
      ∀ i < 32, bitAt v i = if i = 16 then e else bitAt s.msr i)

/-- `mfspr` of each of the 16 SPRs gives its 32-bit image and changes nothing else; every other number is illegal (49_system.md R449). -/
def Obligations.SprReadResults : Prop :=
  ∀ (s : State) (rt : Gpr) (k : BitVec 10),
    let reads (n : BitVec 10) (v : Word) : Prop :=
      exec (.mfspr rt n) s = .next { s with gpr := s.gpr.set rt v, iar := s.nia }
    let pending := s.pins.extIntr || (bitAt s.tcr 4 && bitAt s.tsr 1) || (bitAt s.tcr 5 && bitAt s.tsr 4) ||
      (bitAt s.tcr 8 && bitAt s.tsr 5)
    reads 1 (BitVec.ofNat 32 (s.xer.so.toNat * 2 ^ 31 + s.xer.ov.toNat * 2 ^ 30 + s.xer.ca.toNat * 2 ^ 29)) ∧
    reads 8 s.lr ∧ reads 9 s.ctr ∧ reads 22 s.dec ∧ reads 26 s.srr0 ∧ reads 27 s.srr1 ∧ reads 61 s.edr ∧
    reads 62 (s.isr ||| if pending then 0x400 else 0) ∧
    reads 63 (BitVec.ofNat 32 (s.cfg.ivpr.toNat * 512)) ∧
    reads 272 s.sprg0 ∧ reads 286 (BitVec.ofNat 32 s.cfg.pirValue.toNat) ∧
    reads 287 (BitVec.ofNat 32 ((if s.cfg.variant = .ppe42 then 0x42000000 else 0x42100000) + s.cfg.pvrIsvi.toNat)) ∧
    reads 308 s.dbcr ∧ reads 316 s.dacr ∧ reads 336 s.tsr ∧ reads 340 s.tcr ∧
    (k ∉ ([1, 8, 9, 22, 26, 27, 61, 62, 63, 272, 286, 287, 308, 316, 336, 340] : List (BitVec 10)) → s.pending = [] →
      exec (.mfspr rt k) s = .next (s.programInterrupt false))

/-- `mtspr` of each writable SPR, through its own write rule; the SPR, TSR[DIS] for the DEC, and the IAR are all that changes
(49_system.md R446; 10_state.md R44, R55, R56, R59, R64 to R67; 61_timers.md R572, R580). That on a PPE 42 TCR bit 10 and the PPE 42X
fields of the DBCR are reserved and dropped is an inference, the spec's own in R56 and the model's in log 31. -/
def Obligations.SprWriteResults : Prop :=
  ∀ (s : State) (rs : Gpr),
    let v := s.reg rs
    let writes (n : BitVec 10) (t : State) : Prop := exec (.mtspr n rs) s = .next { t with iar := s.nia }
    writes 1 { s with xer := ⟨bitAt v 0, bitAt v 1, bitAt v 2⟩ } ∧
    writes 8 { s with lr := v } ∧ writes 9 { s with ctr := v } ∧
    writes 22 { s with
      dec := v
      tsr := if bitAt s.dec 0 = false ∧ bitAt v 0 = true then s.tsr ||| 0x08000000 else s.tsr } ∧
    writes 26 { s with srr0 := v &&& ~~~3 } ∧ writes 27 { s with srr1 := v &&& 0x7FFF9DFF } ∧
    writes 61 { s with edr := v } ∧ writes 62 { s with isr := v &&& 0x0000F0CF } ∧ writes 272 { s with sprg0 := v } ∧
    writes 316 { s with dacr := v } ∧
    writes 336 { s with tsr := if s.xsr.rip then v &&& 0xFC000000 else s.tsr &&& ~~~v } ∧
    writes 340 { s with tcr := v &&& if s.cfg.variant = .ppe42 then 0xFFC00000 else 0xFFE00000 } ∧
    (bits v 2 2 = 0 →
      writes 308 { s with dbcr := v &&& if s.cfg.variant = .ppe42 then 0x018C0000 else 0x018C00C7 })

/-- A write of DBCR[RST]: 11 halts the core at the next instruction with HC 101 unless it is locked; 01 and 10 request a soft and a hard
reset (10_state.md R56; 62_debug_xir.md R627; 70_reset_and_hazards.md R700). That the `mtspr` is done, with the IAR at the address after it,
before the reset it requests is taken is the spec's decision D11 (log 10). -/
def Obligations.DebugControlResetResults : Prop :=
  ∀ (s : State) (rs : Gpr),
    let v := s.reg rs
    let t : State := { s with dbcr := v &&& dbcrMask s.cfg.variant, iar := s.nia }
    (bits v 2 2 = 3 → exec (.mtspr 308 rs) s =
      .next { t with
        xsr := { s.xsr with hcp := true, hc := if s.xsr.hc = 0 then 5 else s.xsr.hc }
        out := { s.out with error3 := true } }) ∧
    (bits v 2 2 = 1 → s.resetting = none → exec (.mtspr 308 rs) s =
      .next { t with isr := setField s.isr 16 s.sms, resetting := some ⟨.soft, false, false⟩ }) ∧
    (bits v 2 2 = 2 → s.resetting = none → exec (.mtspr 308 rs) s =
      .next { t with isr := setField s.isr 16 s.sms, resetting := some ⟨.hard, false, false⟩ })

/-- `rfi` restores the MSR from SRR1 and the IAR from SRR0, and changes nothing else (49_system.md R447). That it restores SIBRC too is the
spec's decision D12 (log 16). -/
def Obligations.ReturnFromInterruptResult : Prop :=
  ∀ s : State, (s.pending = [] ∨ s.xsr.rip = true) →
    exec .rfi s = .next { s with msr := s.srr1 &&& 0x7FFF9DFF, iar := s.srr0 &&& ~~~3 }

/-- `tw`: a mark changes nothing but the IAR; a trap takes the program interrupt with ISR[PTR] 1 or, where DBCR[TRAP] is 1, halts the core
at the `tw`; any other TO, or an undefined RA or RB, is illegal unless TG marks it (49_system.md R448). -/
def Obligations.TrapAndMarkResults : Prop :=
  ∀ (s : State) (cond ra rb : BitVec 5) (tg : Bool),
    let tagged := decide (s.cfg.variant = .ppe42x) && tg
    let defined := gprNumbers.contains ra && gprNumbers.contains rb
    (tagged = true → exec (.tw cond ra rb tg) s = .next { s with iar := s.nia }) ∧
    (tagged = false → defined = true → exec (.tw 0 ra rb tg) s = .next { s with iar := s.nia }) ∧
    (tagged = false → defined = true → bitAt s.dbcr 7 = true →
      exec (.tw 31 ra rb tg) s =
        .next { s with
          xsr := { s.xsr with trap := true, hcp := true, hc := if s.xsr.hc = 0 then 4 else s.xsr.hc }
          out := { s.out with error3 := s.out.error3 || !s.xsr.rip } }) ∧
    (tagged = false → defined = true → bitAt s.dbcr 7 = false → s.pending = [] →
      exec (.tw 31 ra rb tg) s = .next (s.programInterrupt true)) ∧
    (tagged = false → (defined = false ∨ (cond ≠ 0 ∧ cond ≠ 31)) → s.pending = [] →
      exec (.tw cond ra rb tg) s = .next (s.programInterrupt false))

/-! ### Interrupts -/

/-- Interrupt entry: SRR0 and SRR1 saved, the MSR cleared but for SIBRC and, except for a machine check or reset, ME, the IAR at the vector
(60_exceptions.md R510). -/
def Obligations.InterruptEntry : Prop :=
  ∀ (offset : BitVec 9) (clearMe : Bool) (a : Word) (s : State),
    ∃ t : State, enter offset clearMe a s = t ∧
      t = { s with srr0 := t.srr0, srr1 := s.msr, msr := t.msr, iar := t.iar } ∧
      (∀ i < 32, bitAt t.srr0 i = (bitAt a i && decide (i < 30))) ∧
      (∀ i < 32, bitAt t.msr i = (bitAt s.msr i && (decide (9 ≤ i ∧ i ≤ 11) || (decide (i = 19) && !clearMe)))) ∧
      bits t.iar 0 23 = s.cfg.ivpr ∧ bits t.iar 23 9 = offset

/-- An unmaskable interrupt records its status, then goes to its own vector, to the machine check vector with its promotion code, or halts
at its own vector (60_exceptions.md R506, R530). -/
def Obligations.UnmaskableInterruptDispatch : Prop :=
  ∀ (s : State) (trap store : Bool) (a : Word), s.pending = [] →
    raise (.program trap) s = s.programInterrupt trap ∧
    raise .isi s = s.dispatched 0x080 5 ∧
    raise (.dsi store a) s = s.dataStorageInterrupt store a ∧
    raise (.align store a) s = s.alignmentInterrupt store a

/-- A running core with MSR[EE] = 1 takes the pending asynchronous interrupt of highest priority (watchdog, external, fixed interval,
decrementer) before the next instruction, with SRR0 its address (60_exceptions.md R503, R504, R505 step 1). The inputs are sampled as the
step begins (log 30). -/
def Obligations.AsynchronousInterruptTaken : Prop :=
  ∀ s : State, s.running → s.pending = [] → bitAt s.msr 16 = true →
    let wdt := bitAt s.tcr 4 && bitAt s.tsr 1
    let fit := bitAt s.tcr 8 && bitAt s.tsr 5
    let dec := bitAt s.tcr 5 && bitAt s.tsr 4
    let taken (offset : BitVec 9) : Prop := step s = finish (.next ((s.latched s.ir).entered offset true s.iar))
    (wdt = true → taken 0x140) ∧
    (wdt = false → s.pins.extIntr = true → taken 0x0A0) ∧
    (wdt = false → s.pins.extIntr = false → fit = true → taken 0x120) ∧
    (wdt = false → s.pins.extIntr = false → fit = false → dec = true → taken 0x100)

/-- A running core in the wait state with nothing asynchronous enabled and pending executes nothing (10_state.md R50). Out of it, the
instruction address compare matches where DBCR[IACE] is 1 and the IAR equals the DACR (on a PPE 42X without the low bits that DBCR[ACS]
leaves out), or where a PPE 42X with DBCR[ZACE] has the IAR 0; a match halts the core before the fetch, and without one the fetched
instruction runs (62_debug_xir.md R630, R635). -/
def Obligations.WaitAndInstructionCompare : Prop :=
  ∀ s : State, s.running → s.asyncTaken = none →
    let ignored : Nat := match s.cfg.variant with
      | .ppe42 => 0
      | .ppe42x => match (bits s.dbcr 24 2).toNat with
        | 0 => 2
        | 1 => 2
        | 2 => 3
        | _ => 5
    let hit : Prop :=
      (bitAt s.dbcr 8 = true ∧ s.iar.toNat / 2 ^ ignored = s.dacr.toNat / 2 ^ ignored) ∨
        (s.cfg.variant = .ppe42x ∧ bitAt s.dbcr 29 = true ∧ s.iar = 0)
    let word := readWord s.mem s.iar
    (s.we = true → step s = finish (.next (s.latched s.ir))) ∧
    (iacMatch s = true ↔ hit) ∧
    (s.we = false → hit →
      step s = finish (.next ((s.latched s.ir).debugHalted fun x => { x with iac := true }))) ∧
    (s.we = false → ¬ hit → s.sys.fetchReply s.iar = .ok → ∀ i : Instr, decode s.cfg.fcb word = .ok i →
      step s = finish (exec i (s.latched word)))

/-- A fetch that the memory subsystem rejects takes the instruction storage interrupt, or the instruction machine check with MCS 000, and
leaves EDR; a SIB fetch with a code that is not 0 takes that machine check too, masked or not, with SIBRC and SIBRCA first brought up to
date, and one with code 0 changes neither (60_exceptions.md R505 step 3, R512, R521; 10_state.md R49). That the IR stays as it was is the
model's choice (log 43). -/
def Obligations.RejectedFetchTakesInterrupt : Prop :=
  ∀ s : State, s.running → s.asyncTaken = none → s.we = false → iacMatch s = false → s.pending = [] →
    let t := s.latched s.ir
    (s.sys.fetchReply s.iar = .isi → step s = finish (.next (t.dispatched 0x080 5))) ∧
    (s.sys.fetchReply s.iar = .error → step s = finish (.next (t.machineChecked false 0 s.iar))) ∧
    (∀ c : BitVec 3, c ≠ 0 → s.sys.fetchReply s.iar = .sib c →
      step s = finish (.next ((t.sibSeen c).machineChecked false 0 s.iar))) ∧
    (s.sys.fetchReply s.iar = .sib 0 → ∀ i : Instr, decode s.cfg.fcb (readWord s.mem s.iar) = .ok i →
      step s = finish (exec i (s.latched (readWord s.mem s.iar))))

/-- Pending imprecise store errors are reported in place of `sync`, of `mfmsr`, `mtmsr` and `rfi` unless rammed, of every exception that an
instruction raises, and of an asynchronous interrupt: MCS 011, MFE where there are several, EDR one of their addresses, SRR0 the
instruction not executed (60_exceptions.md R507, R514, R517). That one machine check reports them all and keeps none, and that which
address EDR gives is free, is the model's choice (log 23). -/
def Obligations.ImpreciseErrorsReported : Prop :=
  ∀ s : State, s.pending ≠ [] →
    (∀ (r : Gpr) (i : Instr), i ∈ [Instr.sync, .mfmsr r, .mtmsr r, .rfi] → (i = .sync ∨ s.xsr.rip = false) →
      ∃ a ∈ s.pending, ∃ f : Nat, exec i s = .next (s.errorsReported a f)) ∧
    (∀ e : Exception, ∃ a ∈ s.pending, ∃ f : Nat, raise e s = s.errorsReported a f) ∧
    (s.running → s.asyncTaken ≠ none → ∃ a ∈ s.pending, ∃ f : Nat,
      step s = finish (.next ((s.latched s.ir).errorsReported a f)))

/-! ### Timers, the external interface, reset -/

/-- One cycle of the timers (61_timers.md R572, R576, R577, R579). Frozen, it changes nothing: HCP is 1 and TRH is 0 or, on a PPE 42X,
DBCR[HDFT] is 1 and HC is above 001; that HDFT wins over TRH is the spec's decision D13 (log 17). Not frozen, the DEC counts by TCR[DS],
its step from 0 to x'FFFFFFFF' sets TSR[DIS], the selected input sets TSR[FIS], and then the watchdog's input gives a watchdog event. On a
PPE 42X with DBCR[HDFI] 1 and HC above 001 the DEC counts and the TSR stays as it is; that the changes are dropped and not kept for later
is the model's choice (log 17). -/
def Obligations.TimerCycleResults : Prop :=
  ∀ (s : State) (timer : BitVec 4) (decTimer : Bool),
    let frozen : Prop := s.xsr.hcp = true ∧
      (s.xsr.trh = false ∨ (s.cfg.variant = .ppe42x ∧ bitAt s.dbcr 31 = true ∧ 1 < s.xsr.hc.toNat))
    let statusFrozen : Prop := s.cfg.variant = .ppe42x ∧ bitAt s.dbcr 30 = true ∧ 1 < s.xsr.hc.toNat
    let counts : Bool := match (bits s.tcr 9 2).toNat with
      | 0 => true
      | 1 => timer.getMsbD 1
      | 2 => decTimer
      | _ => timer.getMsbD 3
    let watchdog (t : State) : State := if timer.getMsbD (bits s.tcr 0 2).toNat then watchdogEvent t else t
    let t : State := { s with dec := if counts then s.dec - 1 else s.dec }
    (frozen → timerCycle timer decTimer s = s) ∧
    (¬ frozen → statusFrozen → timerCycle timer decTimer s = watchdog t) ∧
    (¬ frozen → ¬ statusFrozen → timerCycle timer decTimer s =
      watchdog { t with
        tsr := s.tsr ||| (if counts ∧ s.dec = 0 then 0x08000000 else 0) |||
          (if timer.getMsbD (bits s.tcr 6 2).toNat then 0x04000000 else 0) })

/-- A watchdog event (61_timers.md R577): ENW, then WIS, then by TCR[WRC] nothing, a soft reset, a hard reset or a forced halt, with WRS the
old WRC and WRC cleared. A reset in progress goes on, a hard one having priority (70_reset_and_hazards.md R700). On a PPE 42X with
DBCR[HDFI] 1 and HC above 001 the TSR stays as it is; that the action follows all the same is the model's choice (log 17). -/
def Obligations.WatchdogEventActions : Prop :=
  ∀ s : State,
    let statusFrozen : Bool := decide (s.cfg.variant = .ppe42x ∧ bitAt s.dbcr 30 = true ∧ 1 < s.xsr.hc.toNat)
    let wrc := bits s.tcr 2 2
    let status (w : Word) : State := if statusFrozen then s else { s with tsr := w }
    let timedOut : State :=
      { status (setField s.tsr 2 wrc) with
        tcr := setField s.tcr 2 (0 : BitVec 2), out := { s.out with watchdogTimeout := true } }
    let reset (k : ResetKind) : State :=
      match s.resetting with
      | none => { timedOut with isr := setField s.isr 16 s.sms, resetting := some ⟨k, false, false⟩ }
      | some r => { timedOut with resetting := some { r with kind := if r.kind = .hard then .hard else k } }
    (bitAt s.tsr 0 = false → watchdogEvent s = status (s.tsr ||| 0x80000000)) ∧
    (bitAt s.tsr 0 = true → bitAt s.tsr 1 = false → watchdogEvent s = status (s.tsr ||| 0x40000000)) ∧
    (bitAt s.tsr 0 = true → bitAt s.tsr 1 = true →
      (wrc = 0 → watchdogEvent s = s) ∧
      (wrc = 1 → watchdogEvent s = reset .soft) ∧
      (wrc = 2 → watchdogEvent s = reset .hard) ∧
      (wrc = 3 → watchdogEvent s =
        { timedOut with
          resetting := none
          xsr := { s.xsr with rip := false, sip := false, hcp := true, hc := if s.xsr.hc = 0 then 2 else s.xsr.hc }
          out := { timedOut.out with error2 := true } }))

/-- No XIR read changes anything in the core: its only effect is the reply, beside the end of the last outputs as at every step
(62_debug_xir.md R603). -/
def Obligations.XirReadsHaveNoSideEffect : Prop :=
  ∀ (s : State) (p : XirPair) (g : XirGprs) (rest : List Stimulus),
    let t := s.latched s.ir
    (s.stimuli = .xirRead p :: rest →
      step s = .next { t with stimuli := rest, reply := some (replyData (xirReadPair p t)) }) ∧
    (s.stimuli = .xirReadGprs g :: rest →
      step s = .next { t with stimuli := rest, reply := some (replyData (xirReadGprPair g t)) })

/-- The datum that a read of each XIR pair gives, and the XSR bit by bit with its mirrors; XCR reads 0; a read of a write-only pair, or on a
PPE 42 of pair 0 or 6, gives none. The GPR pairs that a PPE 42X instance may show (62_debug_xir.md R601, R602, R608, R643; 10_state.md R69).
That HS is 0 in a reset is an inference of the model's (log 25); the code in SMS is the instance's (log 24). -/
def Obligations.XirReadResults : Prop :=
  ∀ (s : State) (p : XirPair) (g : XirGprs),
    let x := s.xsrValue
    let isX := decide (s.cfg.variant = .ppe42x)
    let pending := s.pins.extIntr || (bitAt s.tcr 4 && bitAt s.tsr 1) || (bitAt s.tcr 5 && bitAt s.tsr 4) ||
      (bitAt s.tcr 8 && bitAt s.tsr 5)
    let gprs (a b : Gpr) : Dword := (s.reg a) ++ (s.reg b)
    (bitAt x 0 = (s.xsr.hcp && !s.xsr.rip && !s.xsr.sip && decide (s.resetting = none)) ∧ x.extractLsb' 28 3 = s.xsr.hc ∧
      bitAt x 4 = s.xsr.hcp ∧ bitAt x 5 = s.xsr.rip ∧ bitAt x 6 = s.xsr.sip ∧ bitAt x 7 = s.xsr.trap ∧ bitAt x 8 = s.xsr.iac ∧
      x.extractLsb' 20 3 = s.msr.extractLsb' 20 3 ∧ bitAt x 12 = s.xsr.rdac ∧ bitAt x 13 = s.xsr.wdac ∧
      bitAt x 14 = bitAt s.msr 13 ∧ bitAt x 15 = s.xsr.trh ∧ x.extractLsb' 12 4 = s.sms ∧ bitAt x 20 = bitAt s.msr 12 ∧
      bitAt x 21 = (if isX && bitAt s.dbcr 30 && decide (1 < s.xsr.hc.toNat) then s.xsr.epHeld else pending) ∧
      bitAt x 22 = (isX && bitAt s.msr 16) ∧ bitAt x 23 = false ∧ x.extractLsb' 6 2 = s.isr.extractLsb' 6 2 ∧
      x.extractLsb' 4 2 = 0 ∧ x.extractLsb' 0 4 = s.isr.extractLsb' 0 4) ∧
    xirReadPair p s = (match p with
      | .xcrCtr => if isX then some (0#32 ++ s.ctr) else none
      | .xcrSprg0 => none
      | .irSprg0 => none
      | .xsrSprg0 => some (x ++ s.sprg0)
      | .irEdr => some (s.ir ++ s.edr)
      | .xsrIar => some (x ++ s.iar)
      | .srr0Lr => if isX then some (s.srr0 ++ s.lr) else none) ∧
    xirReadGprPair g s = if isX && s.cfg.xirGprAccess then
      some (match g with
        | .d0 => gprs .r0 .r1
        | .d2 => gprs .r2 .r3
        | .d4 => gprs .r4 .r5
        | .d6 => gprs .r6 .r7
        | .d8 => gprs .r8 .r9
        | .d28 => gprs .r28 .r29
        | .d30 => gprs .r30 .r31
        | .dx => gprs .r10 .r13)
      else none

/-- Which XIR accesses are accepted; a write that is not answers Invalid Access and changes nothing (62_debug_xir.md R601, R602). -/
def Obligations.XirAccessAcceptance : Prop :=
  ∀ (s : State) (p : XirPair) (v : Dword),
    let cmd := (v.extractLsb' 60 3).toNat
    let writable : Bool := match p with
      | .xcrCtr =>
        if cmd = 0 ∨ cmd = 3 then s.halted else if cmd = 2 then s.halted || !s.xsr.hcp else true
      | .xcrSprg0 => s.halted
      | .irSprg0 => s.halted
      | .xsrSprg0 => s.halted
      | .irEdr => s.halted
      | .xsrIar => s.halted
      | .srr0Lr => false
    let readable : Bool := match p with
      | .xcrCtr => decide (s.cfg.variant = .ppe42x)
      | .xcrSprg0 => false
      | .irSprg0 => false
      | .xsrSprg0 => true
      | .irEdr => true
      | .xsrIar => true
      | .srr0Lr => decide (s.cfg.variant = .ppe42x)
    (writable = true → ∃ t : State, xirWritePair p v s = some t ∧ xirWrite p v s = { t with reply := some .accepted }) ∧
    (writable = false → xirWrite p v s = { s with reply := some .invalidAccess }) ∧
    (xirReadPair p s).isSome = readable

/-- The eight commands of a write of XCR through pair 0: when each is accepted and what it does (62_debug_xir.md R610, R616). That a
force halt ends a reset or an instruction at once and tears none is the spec's decision D9 (log 10). -/
def Obligations.XcrCommandResults : Prop :=
  ∀ (s : State) (v : Dword),
    let cmd := (v.extractLsb' 60 3).toNat
    let result := xirWritePair .xcrCtr v s
    let reset (k : ResetKind) : State :=
      { s with isr := setField s.isr 16 s.sms, resetting := some ⟨k, false, false⟩ }
    (cmd = 0 → result = if s.halted then
      some { s with xsr := { s.xsr with trap := false, iac := false, rdac := false, wdac := false } } else none) ∧
    (cmd = 1 → result = some { s with xsr := { s.xsr with hcp := true } }) ∧
    (cmd = 2 → result = if s.halted || !s.xsr.hcp then some { s with xsr := { s.xsr with hcp := false, hc := 0 } } else none) ∧
    (cmd = 3 → result = if s.halted then some { s with xsr := { s.xsr with sip := true, hc := 0 } } else none) ∧
    (cmd = 4 → result = some { s with xsr := { s.xsr with trh := !s.xsr.trh } }) ∧
    (cmd = 5 → s.resetting = none → result = some (reset .soft)) ∧
    (cmd = 6 → s.resetting = none → result = some (reset .hard)) ∧
    (cmd = 7 → result = some { s with
      resetting := none
      xsr := { s.xsr with rip := false, sip := false, hcp := true, hc := if s.xsr.hc = 0 then 1 else s.xsr.hc } })

/-- What an XIR write of the other pairs does; all of them need the halted state. Pair 1 writes SPRG0 and performs its command as pair 0
does. A write of the IR starts a ram: RIP is 1 and HC 0. A write of the IAR keeps its low two bits 0 and leaves SRR0 and the MSR. A
write of the XSR sets HC and the four event bits on a PPE 42X and nothing on a PPE 42. SPRG0 takes its word; EDR, LR and SRR0 are never
written (62_debug_xir.md R601, R602, R606, R607, R650). -/
def Obligations.XirWriteResults : Prop :=
  ∀ (s : State) (v : Dword),
    let w0 : Word := v.extractLsb' 32 32
    let w1 : Word := v.extractLsb' 0 32
    let whenHalted (t : State) : Option State := if s.halted then some t else none
    let rammed : Xsr := { s.xsr with rip := true, hc := 0 }
    let written : Xsr := if s.cfg.variant = .ppe42x then
        { s.xsr with
          hc := w0.extractLsb' 28 3, trap := bitAt w0 7, iac := bitAt w0 8, rdac := bitAt w0 12, wdac := bitAt w0 13 }
      else s.xsr
    xirWritePair .xcrSprg0 v s = (if s.halted then xirWritePair .xcrCtr v { s with sprg0 := w1 } else none) ∧
    xirWritePair .irSprg0 v s = whenHalted { s with sprg0 := w1, ir := w0, xsr := rammed } ∧
    xirWritePair .xsrSprg0 v s = whenHalted { s with sprg0 := w1, xsr := written } ∧
    xirWritePair .irEdr v s = whenHalted { s with ir := w0, xsr := rammed } ∧
    xirWritePair .xsrIar v s = whenHalted { s with iar := w1 &&& ~~~3, xsr := written } ∧
    xirWritePair .srr0Lr v s = none

/-- A reset (70_reset_and_hazards.md R702, R705, R706). With the memory subsystem's acknowledgement it clears DBCR, TCR[WRC] and the control
bits, HCP only by `hreset_req`, and takes the system reset interrupt; nothing else changes. While `hreset_req` is active the core stays in
the reset, and one that is not in a reset, running or halted, enters it. That memory stays as it is for both kinds is the model's choice
(log 37), that pending imprecise errors are dropped too (log 32), and that the level enters a reset again that a force halt has ended
(log 41). That one acknowledgement serves soft and hard resets alike is the model's choice too (log 44). -/
def Obligations.ResetSequenceResult : Prop :=
  (∀ (s : State) (r : ResetState), s.resetting = some r → r.applied = false → s.stimuli = [] →
    s.pins.hresetReq = false → s.sys.resetAck = true →
    step s = .next
      { s.latched s.ir with
        dbcr := 0
        tcr := setField s.tcr 2 (0 : BitVec 2)
        xsr := { (s.latched s.ir).xsr with hc := 0, rip := false, sip := false, hcp := s.xsr.hcp && !r.hreset }
        srr0 := s.iar &&& ~~~3
        srr1 := s.msr
        msr := place s.sibrc 9
        iar := place s.cfg.ivpr 0 ||| 0x040
        resetting := none
        pending := [] }) ∧
  (∀ s : State, s.stimuli = [] → s.pins.hresetReq = true → s.resetting = none →
    step s = .next
      { s.latched s.ir with isr := setField s.isr 16 s.sms, resetting := some ⟨.hard, true, false⟩ }) ∧
  (∀ (s : State) (r : ResetState), s.stimuli = [] → s.pins.hresetReq = true → s.resetting = some r →
    step s = .next { s.latched s.ir with resetting := some ⟨.hard, true, false⟩ })

/-- The halted state (62_debug_xir.md R621 to R624, R626, R650, R654; 10_state.md R76). A halted core stays as it is: a step fetches and
executes nothing. An active level of `halt_req` sets HCP, and HC to 110 unless it is locked, when it comes and at every step of a core that
is in no reset; a core that neither steps nor rams then executes nothing. The step that executes a single-stepped or rammed instruction
ends with SIP and RIP 0 and HCP still 1, halted unless a reset has begun: that HS is 0 in a reset, with HCP kept, is an inference of the
model's (log 25), read from 70_reset_and_hazards.md R702. -/
def Obligations.HaltedStateResults : Prop :=
  (∀ s : State, s.halted = true → s.stimuli = [] → s.pins.hresetReq = false → s.pins.haltReq = false →
    step s = .next (s.latched s.ir)) ∧
  (∀ (s : State) (level : Bool) (rest : List Stimulus), s.stimuli = .haltReq level :: rest →
    let t := s.latched s.ir
    step s = .next { t with
      stimuli := rest
      pins := { s.pins with haltReq := level }
      xsr := if level then { t.xsr with hcp := true, hc := if s.xsr.hc = 0 then 6 else s.xsr.hc } else t.xsr }) ∧
  (∀ s : State, s.stimuli = [] → s.resetting = none → s.pins.hresetReq = false → s.pins.haltReq = true →
    let t := s.latched s.ir
    let code : BitVec 3 := if s.xsr.hc = 0 then 6 else s.xsr.hc
    (s.xsr.rip = false → s.xsr.sip = false → step s = .next { t with xsr := { t.xsr with hcp := true, hc := code } }) ∧
    ∃ u : State, step s = .next u ∧ u.xsr.hcp = true ∧ u.xsr.hc = code ∧ u.xsr.rip = false ∧ u.xsr.sip = false) ∧
  (∀ s : State, s.stimuli = [] → s.resetting = none → s.pins.hresetReq = false → s.xsr.hcp = true →
    (s.xsr.rip = true ∨ s.xsr.sip = true) →
    ∃ u : State, step s = .next u ∧ u.xsr.rip = false ∧ u.xsr.sip = false ∧ u.xsr.hcp = true ∧ u.halted = u.resetting.isNone)
end

