-- ==== Sys2Proof/Laws/Decode.lean ====
section
/-! SUPPORT. Fields of words built from fields, and register numbers: what a round trip of the decoder rests on. -/

namespace Sys2Proof

theorem bits_or (v w : Word) (a n : Nat) : bits (v ||| w) a n = bits v a n ||| bits w a n := by
  unfold bits; exact BitVec.extractLsb'_or

/-- A field placed reads back. -/
theorem bits_place_self {n : Nat} (v : BitVec n) (a : Nat) (h : a + n ≤ 32) : bits (place v a) a n = v := by
  unfold bits place
  ext i hi
  simp only [BitVec.getElem_extractLsb', BitVec.getLsbD_shiftLeft, BitVec.getLsbD_setWidth]
  have h1 : 32 - a - n + i < 32 := by omega
  have h2 : ¬ 32 - a - n + i < 32 - a - n := by omega
  have h3 : 32 - a - n + i - (32 - a - n) = i := by omega
  simp [h1, h2, h3, show i < 32 by omega, BitVec.getLsbD_eq_getElem hi]

/-- A field placed elsewhere reads 0. -/
theorem bits_place_disjoint {n : Nat} (v : BitVec n) (a b m : Nat) (h : a + n ≤ 32) (hb : b + m ≤ 32)
    (hd : a + n ≤ b ∨ b + m ≤ a) : bits (place v a) b m = 0 := by
  unfold bits place
  ext i hi
  simp only [BitVec.getElem_extractLsb', BitVec.getLsbD_shiftLeft, BitVec.getLsbD_setWidth]
  rcases hd with hd | hd
  · have h2 : 32 - b - m + i < 32 - a - n := by omega
    simp [h2]
  · have h2 : ¬ 32 - b - m + i < 32 - a - n := by omega
    have h3 : n ≤ 32 - b - m + i - (32 - a - n) := by omega
    simp [BitVec.getLsbD_of_ge v _ h3]

/-- A bit of a one-bit field placed. -/
theorem bitAt_eq_bits (w : Word) (a : Nat) (h : a < 32) : bitAt w a = (bits w a 1 == 1) := by
  unfold bitAt bits
  rw [BitVec.getMsbD_eq_getLsbD]
  have h1 : ∀ x : BitVec 1, (x == 1) = x.getLsbD 0 := by decide
  rw [h1]
  simp [h]
  congr 1; omega

/-- A field in two parts. -/
theorem bits_split (w : Word) (a m n : Nat) (h : a + m + n ≤ 32) : bits w a (m + n) = bits w a m ++ bits w (a + m) n := by
  unfold bits
  ext i hi
  simp only [BitVec.getElem_extractLsb', BitVec.getElem_append]
  split
  · congr 1; omega
  · congr 1; omega

@[simp] theorem gpr_ofNum_num (r : Gpr) : Gpr.ofNum r.num = some r := by cases r <;> rfl

@[simp] theorem vdr_ofNum_num (d : Vdr) : Vdr.ofNum d.num = some d := by cases d <;> rfl

/-- A word decodes to a register instruction only where its register field names a GPR. -/
theorem gprAt_ok (w : Word) (a : Nat) (r : Gpr) (h : bits w a 5 = r.num) : gprAt w a = .ok r := by
  unfold gprAt; rw [h]; simp

theorem vdrAt_ok (w : Word) (a : Nat) (d : Vdr) (h : bits w a 5 = d.num) : vdrAt w a = .ok d := by
  unfold vdrAt; rw [h]; simp

end Sys2Proof
end

