-- ==== Sys2Proof/Laws/Memory.lean ====
section
/-! SUPPORT. Memory as bytes: reading after writing, and the canonical form that every memory operation keeps. -/

namespace Sys2Proof.Machine

/-! ### The list of cells -/

theorem memory_wfFrom_mono (m : List Host.Cell) (a b : Nat) (h : Memory.wfFrom b m = true) (hab : a ≤ b) :
    Memory.wfFrom a m = true := by
  cases m with
  | nil => rfl
  | cons c t =>
    obtain ⟨k, v⟩ := c
    simp only [Memory.wfFrom, Bool.and_eq_true, decide_eq_true_eq] at h ⊢
    exact ⟨⟨⟨hab.trans h.1.1.1, h.1.1.2⟩, h.1.2⟩, h.2⟩

/-- Below its first address a list in canonical form has no cell. -/
theorem memory_read_below (m : List Host.Cell) (lo a : Nat) (h : Memory.wfFrom lo m = true) (ha : a < lo) :
    Memory.read m a = Memory.unlisted := by
  induction m generalizing lo with
  | nil => rfl
  | cons c t ih =>
    obtain ⟨k, v⟩ := c
    simp only [Memory.wfFrom, Bool.and_eq_true, decide_eq_true_eq] at h
    have hk : k ≠ a := by omega
    simp only [Memory.read, if_neg hk]
    exact ih (k + 1) h.2 (by omega)

theorem memory_read_write_self (m : List Host.Cell) (lo a : Nat) (b : Byte) (h : Memory.wfFrom lo m = true) :
    Memory.read (Memory.write m a b) a = b := by
  induction m generalizing lo with
  | nil =>
    by_cases hb : b = Memory.unlisted <;> simp [Memory.write, Memory.read, hb]
  | cons c t ih =>
    obtain ⟨k, v⟩ := c
    simp only [Memory.wfFrom, Bool.and_eq_true, decide_eq_true_eq] at h
    simp only [Memory.write]
    split_ifs with h1 h2 h3 h4
    · subst h2
      have hk : k ≠ a := by omega
      simp only [Memory.read, if_neg hk]
      exact memory_read_below t (k + 1) a h.2 (by omega)
    · simp [Memory.read]
    · subst h3; subst h4
      exact memory_read_below t (a + 1) a h.2 (by omega)
    · simp [Memory.read]
    · have hk : k ≠ a := by omega
      simp only [Memory.read, if_neg hk]
      exact ih (k + 1) h.2

theorem memory_read_write_other (m : List Host.Cell) (a c : Nat) (b : Byte) (hc : c ≠ a) :
    Memory.read (Memory.write m a b) c = Memory.read m c := by
  have hac : ¬ a = c := fun h => hc h.symm
  induction m with
  | nil => by_cases hb : b = Memory.unlisted <;> simp [Memory.write, Memory.read, hb, hac]
  | cons d t ih =>
    obtain ⟨k, v⟩ := d
    simp only [Memory.write]
    split_ifs with h1 h2 h3 h4
    · rfl
    · simp [Memory.read, hac]
    · subst h3; simp [Memory.read, hac]
    · subst h3; simp [Memory.read, hac]
    · simp only [Memory.read, ih]

theorem memory_write_wfFrom (m : List Host.Cell) (lo a : Nat) (b : Byte) (h : Memory.wfFrom lo m = true) (hlo : lo ≤ a)
    (ha : a < 2 ^ 32) : Memory.wfFrom lo (Memory.write m a b) = true := by
  induction m generalizing lo with
  | nil =>
    have ha' : a < 4294967296 := by omega
    by_cases hb : b = Memory.unlisted <;> simp [Memory.write, Memory.wfFrom, hb, hlo, ha']
  | cons c t ih =>
    obtain ⟨k, v⟩ := c
    simp only [Memory.wfFrom, Bool.and_eq_true, decide_eq_true_eq] at h
    simp only [Memory.write]
    split_ifs with h1 h2 h3 h4
    · simp only [Memory.wfFrom, Bool.and_eq_true, decide_eq_true_eq]; exact h
    · simp only [Memory.wfFrom, Bool.and_eq_true, decide_eq_true_eq]
      exact ⟨⟨⟨hlo, ha⟩, h2⟩, ⟨⟨by omega, h.1.1.2⟩, h.1.2⟩, h.2⟩
    · exact memory_wfFrom_mono t lo (k + 1) h.2 (by omega)
    · simp only [Memory.wfFrom, Bool.and_eq_true, decide_eq_true_eq]
      subst h3
      exact ⟨⟨⟨hlo, ha⟩, h4⟩, h.2⟩
    · simp only [Memory.wfFrom, Bool.and_eq_true, decide_eq_true_eq]
      exact ⟨h.1, ih (k + 1) h.2 (by omega)⟩

/-! ### Bytes -/

theorem readByte_writeByte (m : List Host.Cell) (a c : Word) (b : Byte) (h : Memory.wf m = true) :
    readByte (writeByte m a b) c = if c = a then b else readByte m c := by
  unfold readByte writeByte
  split_ifs with hc
  · subst hc; exact memory_read_write_self m 0 _ b h
  · exact memory_read_write_other m _ _ b (fun he => hc (BitVec.eq_of_toNat_eq he))

theorem readByte_writeByte_other (m : List Host.Cell) (a c : Word) (b : Byte) (hc : c ≠ a) :
    readByte (writeByte m a b) c = readByte m c :=
  memory_read_write_other m _ _ b (fun he => hc (BitVec.eq_of_toNat_eq he))

theorem writeByte_wf (m : List Host.Cell) (a : Word) (b : Byte) (h : Memory.wf m = true) :
    Memory.wf (writeByte m a b) = true := memory_write_wfFrom m 0 _ b h (Nat.zero_le _) a.isLt

theorem writeWord_wf (m : List Host.Cell) (a v : Word) (h : Memory.wf m = true) : Memory.wf (writeWord m a v) = true := by
  unfold writeWord; exact writeByte_wf _ _ _ (writeByte_wf _ _ _ (writeByte_wf _ _ _ (writeByte_wf _ _ _ h)))

theorem zeroBytes_wf (m : List Host.Cell) (a : Word) (n : Nat) (h : Memory.wf m = true) :
    Memory.wf (zeroBytes m a n) = true := by
  induction n with
  | zero => exact h
  | succ n ih => exact writeByte_wf _ _ _ ih

theorem fillBytes_wf (f : Nat → Byte) (m : List Host.Cell) (a : Word) (n : Nat) (h : Memory.wf m = true) :
    Memory.wf (fillBytes f m a n) = true := by
  induction n with
  | zero => exact h
  | succ n ih => exact writeByte_wf _ _ _ ih

/-- What a store leaves is in canonical form. -/
theorem writeMem_canonical (w : Width) (m : List Host.Cell) (a : Word) (v : Dword) (h : Memory.wf m = true) :
    Memory.wf (writeMem w m a v) = true := by
  cases w
  · exact writeByte_wf _ _ _ h
  · exact writeByte_wf _ _ _ (writeByte_wf _ _ _ h)
  · exact writeWord_wf _ _ _ h
  · exact writeWord_wf _ _ _ (writeWord_wf _ _ _ h)

/-- The memory of a reset state is in canonical form. -/
theorem reset_memory_wf : Memory.wf State.reset.mem = true := rfl

end Sys2Proof.Machine
end

