-- ==== Sys2Proof/Laws/State.lean ====
section
/-! SUPPORT. What each update of the state does to each field. -/

namespace Sys2Proof.Machine

/-! ### `setReg` -/

@[simp] theorem setReg_cfg (s : State) (r : Gpr) (v : Word) : (s.setReg r v).cfg = s.cfg := rfl
@[simp] theorem setReg_gpr (s : State) (r : Gpr) (v : Word) : (s.setReg r v).gpr = s.gpr.set r v := rfl
@[simp] theorem setReg_cr0 (s : State) (r : Gpr) (v : Word) : (s.setReg r v).cr0 = s.cr0 := rfl
@[simp] theorem setReg_xer (s : State) (r : Gpr) (v : Word) : (s.setReg r v).xer = s.xer := rfl
@[simp] theorem setReg_msr (s : State) (r : Gpr) (v : Word) : (s.setReg r v).msr = s.msr := rfl
@[simp] theorem setReg_iar (s : State) (r : Gpr) (v : Word) : (s.setReg r v).iar = s.iar := rfl
@[simp] theorem setReg_ir (s : State) (r : Gpr) (v : Word) : (s.setReg r v).ir = s.ir := rfl
@[simp] theorem setReg_lr (s : State) (r : Gpr) (v : Word) : (s.setReg r v).lr = s.lr := rfl
@[simp] theorem setReg_ctr (s : State) (r : Gpr) (v : Word) : (s.setReg r v).ctr = s.ctr := rfl
@[simp] theorem setReg_dec (s : State) (r : Gpr) (v : Word) : (s.setReg r v).dec = s.dec := rfl
@[simp] theorem setReg_srr0 (s : State) (r : Gpr) (v : Word) : (s.setReg r v).srr0 = s.srr0 := rfl
@[simp] theorem setReg_srr1 (s : State) (r : Gpr) (v : Word) : (s.setReg r v).srr1 = s.srr1 := rfl
@[simp] theorem setReg_edr (s : State) (r : Gpr) (v : Word) : (s.setReg r v).edr = s.edr := rfl
@[simp] theorem setReg_isr (s : State) (r : Gpr) (v : Word) : (s.setReg r v).isr = s.isr := rfl
@[simp] theorem setReg_sprg0 (s : State) (r : Gpr) (v : Word) : (s.setReg r v).sprg0 = s.sprg0 := rfl
@[simp] theorem setReg_dbcr (s : State) (r : Gpr) (v : Word) : (s.setReg r v).dbcr = s.dbcr := rfl
@[simp] theorem setReg_dacr (s : State) (r : Gpr) (v : Word) : (s.setReg r v).dacr = s.dacr := rfl
@[simp] theorem setReg_tsr (s : State) (r : Gpr) (v : Word) : (s.setReg r v).tsr = s.tsr := rfl
@[simp] theorem setReg_tcr (s : State) (r : Gpr) (v : Word) : (s.setReg r v).tcr = s.tcr := rfl
@[simp] theorem setReg_xsr (s : State) (r : Gpr) (v : Word) : (s.setReg r v).xsr = s.xsr := rfl
@[simp] theorem setReg_pins (s : State) (r : Gpr) (v : Word) : (s.setReg r v).pins = s.pins := rfl
@[simp] theorem setReg_out (s : State) (r : Gpr) (v : Word) : (s.setReg r v).out = s.out := rfl
@[simp] theorem setReg_resetting (s : State) (r : Gpr) (v : Word) : (s.setReg r v).resetting = s.resetting := rfl
@[simp] theorem setReg_pending (s : State) (r : Gpr) (v : Word) : (s.setReg r v).pending = s.pending := rfl
@[simp] theorem setReg_mem (s : State) (r : Gpr) (v : Word) : (s.setReg r v).mem = s.mem := rfl
@[simp] theorem setReg_sys (s : State) (r : Gpr) (v : Word) : (s.setReg r v).sys = s.sys := rfl
@[simp] theorem setReg_stimuli (s : State) (r : Gpr) (v : Word) : (s.setReg r v).stimuli = s.stimuli := rfl
@[simp] theorem setReg_reply (s : State) (r : Gpr) (v : Word) : (s.setReg r v).reply = s.reply := rfl
@[simp] theorem setReg_free (s : State) (r : Gpr) (v : Word) : (s.setReg r v).free = s.free := rfl

/-! ### `setVdr` -/

@[simp] theorem setVdr_cfg (s : State) (d : Vdr) (v : Dword) : (s.setVdr d v).cfg = s.cfg := rfl
@[simp] theorem setVdr_gpr (s : State) (d : Vdr) (v : Dword) : (s.setVdr d v).gpr = (s.gpr.set d.high (dwordHi v)).set d.low (dwordLo v) := rfl
@[simp] theorem setVdr_cr0 (s : State) (d : Vdr) (v : Dword) : (s.setVdr d v).cr0 = s.cr0 := rfl
@[simp] theorem setVdr_xer (s : State) (d : Vdr) (v : Dword) : (s.setVdr d v).xer = s.xer := rfl
@[simp] theorem setVdr_msr (s : State) (d : Vdr) (v : Dword) : (s.setVdr d v).msr = s.msr := rfl
@[simp] theorem setVdr_iar (s : State) (d : Vdr) (v : Dword) : (s.setVdr d v).iar = s.iar := rfl
@[simp] theorem setVdr_ir (s : State) (d : Vdr) (v : Dword) : (s.setVdr d v).ir = s.ir := rfl
@[simp] theorem setVdr_lr (s : State) (d : Vdr) (v : Dword) : (s.setVdr d v).lr = s.lr := rfl
@[simp] theorem setVdr_ctr (s : State) (d : Vdr) (v : Dword) : (s.setVdr d v).ctr = s.ctr := rfl
@[simp] theorem setVdr_dec (s : State) (d : Vdr) (v : Dword) : (s.setVdr d v).dec = s.dec := rfl
@[simp] theorem setVdr_srr0 (s : State) (d : Vdr) (v : Dword) : (s.setVdr d v).srr0 = s.srr0 := rfl
@[simp] theorem setVdr_srr1 (s : State) (d : Vdr) (v : Dword) : (s.setVdr d v).srr1 = s.srr1 := rfl
@[simp] theorem setVdr_edr (s : State) (d : Vdr) (v : Dword) : (s.setVdr d v).edr = s.edr := rfl
@[simp] theorem setVdr_isr (s : State) (d : Vdr) (v : Dword) : (s.setVdr d v).isr = s.isr := rfl
@[simp] theorem setVdr_sprg0 (s : State) (d : Vdr) (v : Dword) : (s.setVdr d v).sprg0 = s.sprg0 := rfl
@[simp] theorem setVdr_dbcr (s : State) (d : Vdr) (v : Dword) : (s.setVdr d v).dbcr = s.dbcr := rfl
@[simp] theorem setVdr_dacr (s : State) (d : Vdr) (v : Dword) : (s.setVdr d v).dacr = s.dacr := rfl
@[simp] theorem setVdr_tsr (s : State) (d : Vdr) (v : Dword) : (s.setVdr d v).tsr = s.tsr := rfl
@[simp] theorem setVdr_tcr (s : State) (d : Vdr) (v : Dword) : (s.setVdr d v).tcr = s.tcr := rfl
@[simp] theorem setVdr_xsr (s : State) (d : Vdr) (v : Dword) : (s.setVdr d v).xsr = s.xsr := rfl
@[simp] theorem setVdr_pins (s : State) (d : Vdr) (v : Dword) : (s.setVdr d v).pins = s.pins := rfl
@[simp] theorem setVdr_out (s : State) (d : Vdr) (v : Dword) : (s.setVdr d v).out = s.out := rfl
@[simp] theorem setVdr_resetting (s : State) (d : Vdr) (v : Dword) : (s.setVdr d v).resetting = s.resetting := rfl
@[simp] theorem setVdr_pending (s : State) (d : Vdr) (v : Dword) : (s.setVdr d v).pending = s.pending := rfl
@[simp] theorem setVdr_mem (s : State) (d : Vdr) (v : Dword) : (s.setVdr d v).mem = s.mem := rfl
@[simp] theorem setVdr_sys (s : State) (d : Vdr) (v : Dword) : (s.setVdr d v).sys = s.sys := rfl
@[simp] theorem setVdr_stimuli (s : State) (d : Vdr) (v : Dword) : (s.setVdr d v).stimuli = s.stimuli := rfl
@[simp] theorem setVdr_reply (s : State) (d : Vdr) (v : Dword) : (s.setVdr d v).reply = s.reply := rfl
@[simp] theorem setVdr_free (s : State) (d : Vdr) (v : Dword) : (s.setVdr d v).free = s.free := rfl

/-! ### `jump` -/

@[simp] theorem jump_cfg (s : State) (a : Word) : (s.jump a).cfg = s.cfg := rfl
@[simp] theorem jump_gpr (s : State) (a : Word) : (s.jump a).gpr = s.gpr := rfl
@[simp] theorem jump_cr0 (s : State) (a : Word) : (s.jump a).cr0 = s.cr0 := rfl
@[simp] theorem jump_xer (s : State) (a : Word) : (s.jump a).xer = s.xer := rfl
@[simp] theorem jump_msr (s : State) (a : Word) : (s.jump a).msr = s.msr := rfl
@[simp] theorem jump_iar (s : State) (a : Word) : (s.jump a).iar = wordAlign a := rfl
@[simp] theorem jump_ir (s : State) (a : Word) : (s.jump a).ir = s.ir := rfl
@[simp] theorem jump_lr (s : State) (a : Word) : (s.jump a).lr = s.lr := rfl
@[simp] theorem jump_ctr (s : State) (a : Word) : (s.jump a).ctr = s.ctr := rfl
@[simp] theorem jump_dec (s : State) (a : Word) : (s.jump a).dec = s.dec := rfl
@[simp] theorem jump_srr0 (s : State) (a : Word) : (s.jump a).srr0 = s.srr0 := rfl
@[simp] theorem jump_srr1 (s : State) (a : Word) : (s.jump a).srr1 = s.srr1 := rfl
@[simp] theorem jump_edr (s : State) (a : Word) : (s.jump a).edr = s.edr := rfl
@[simp] theorem jump_isr (s : State) (a : Word) : (s.jump a).isr = s.isr := rfl
@[simp] theorem jump_sprg0 (s : State) (a : Word) : (s.jump a).sprg0 = s.sprg0 := rfl
@[simp] theorem jump_dbcr (s : State) (a : Word) : (s.jump a).dbcr = s.dbcr := rfl
@[simp] theorem jump_dacr (s : State) (a : Word) : (s.jump a).dacr = s.dacr := rfl
@[simp] theorem jump_tsr (s : State) (a : Word) : (s.jump a).tsr = s.tsr := rfl
@[simp] theorem jump_tcr (s : State) (a : Word) : (s.jump a).tcr = s.tcr := rfl
@[simp] theorem jump_xsr (s : State) (a : Word) : (s.jump a).xsr = s.xsr := rfl
@[simp] theorem jump_pins (s : State) (a : Word) : (s.jump a).pins = s.pins := rfl
@[simp] theorem jump_out (s : State) (a : Word) : (s.jump a).out = s.out := rfl
@[simp] theorem jump_resetting (s : State) (a : Word) : (s.jump a).resetting = s.resetting := rfl
@[simp] theorem jump_pending (s : State) (a : Word) : (s.jump a).pending = s.pending := rfl
@[simp] theorem jump_mem (s : State) (a : Word) : (s.jump a).mem = s.mem := rfl
@[simp] theorem jump_sys (s : State) (a : Word) : (s.jump a).sys = s.sys := rfl
@[simp] theorem jump_stimuli (s : State) (a : Word) : (s.jump a).stimuli = s.stimuli := rfl
@[simp] theorem jump_reply (s : State) (a : Word) : (s.jump a).reply = s.reply := rfl
@[simp] theorem jump_free (s : State) (a : Word) : (s.jump a).free = s.free := rfl

/-! ### `advance` -/

@[simp] theorem advance_cfg (s : State) : (s.advance).cfg = s.cfg := by unfold State.advance; split <;> rfl
@[simp] theorem advance_gpr (s : State) : (s.advance).gpr = s.gpr := by unfold State.advance; split <;> rfl
@[simp] theorem advance_cr0 (s : State) : (s.advance).cr0 = s.cr0 := by unfold State.advance; split <;> rfl
@[simp] theorem advance_xer (s : State) : (s.advance).xer = s.xer := by unfold State.advance; split <;> rfl
@[simp] theorem advance_msr (s : State) : (s.advance).msr = s.msr := by unfold State.advance; split <;> rfl
@[simp] theorem advance_iar (s : State) : (s.advance).iar = if s.xsr.rip then s.iar else s.iar + 4 := by unfold State.advance; split <;> rfl
@[simp] theorem advance_ir (s : State) : (s.advance).ir = s.ir := by unfold State.advance; split <;> rfl
@[simp] theorem advance_lr (s : State) : (s.advance).lr = s.lr := by unfold State.advance; split <;> rfl
@[simp] theorem advance_ctr (s : State) : (s.advance).ctr = s.ctr := by unfold State.advance; split <;> rfl
@[simp] theorem advance_dec (s : State) : (s.advance).dec = s.dec := by unfold State.advance; split <;> rfl
@[simp] theorem advance_srr0 (s : State) : (s.advance).srr0 = s.srr0 := by unfold State.advance; split <;> rfl
@[simp] theorem advance_srr1 (s : State) : (s.advance).srr1 = s.srr1 := by unfold State.advance; split <;> rfl
@[simp] theorem advance_edr (s : State) : (s.advance).edr = s.edr := by unfold State.advance; split <;> rfl
@[simp] theorem advance_isr (s : State) : (s.advance).isr = s.isr := by unfold State.advance; split <;> rfl
@[simp] theorem advance_sprg0 (s : State) : (s.advance).sprg0 = s.sprg0 := by unfold State.advance; split <;> rfl
@[simp] theorem advance_dbcr (s : State) : (s.advance).dbcr = s.dbcr := by unfold State.advance; split <;> rfl
@[simp] theorem advance_dacr (s : State) : (s.advance).dacr = s.dacr := by unfold State.advance; split <;> rfl
@[simp] theorem advance_tsr (s : State) : (s.advance).tsr = s.tsr := by unfold State.advance; split <;> rfl
@[simp] theorem advance_tcr (s : State) : (s.advance).tcr = s.tcr := by unfold State.advance; split <;> rfl
@[simp] theorem advance_xsr (s : State) : (s.advance).xsr = s.xsr := by unfold State.advance; split <;> rfl
@[simp] theorem advance_pins (s : State) : (s.advance).pins = s.pins := by unfold State.advance; split <;> rfl
@[simp] theorem advance_out (s : State) : (s.advance).out = s.out := by unfold State.advance; split <;> rfl
@[simp] theorem advance_resetting (s : State) : (s.advance).resetting = s.resetting := by unfold State.advance; split <;> rfl
@[simp] theorem advance_pending (s : State) : (s.advance).pending = s.pending := by unfold State.advance; split <;> rfl
@[simp] theorem advance_mem (s : State) : (s.advance).mem = s.mem := by unfold State.advance; split <;> rfl
@[simp] theorem advance_sys (s : State) : (s.advance).sys = s.sys := by unfold State.advance; split <;> rfl
@[simp] theorem advance_stimuli (s : State) : (s.advance).stimuli = s.stimuli := by unfold State.advance; split <;> rfl
@[simp] theorem advance_reply (s : State) : (s.advance).reply = s.reply := by unfold State.advance; split <;> rfl
@[simp] theorem advance_free (s : State) : (s.advance).free = s.free := by unfold State.advance; split <;> rfl

/-! ### `setCA` -/

@[simp] theorem setCA_cfg (s : State) (c : Bool) : (setCA c s).cfg = s.cfg := rfl
@[simp] theorem setCA_gpr (s : State) (c : Bool) : (setCA c s).gpr = s.gpr := rfl
@[simp] theorem setCA_cr0 (s : State) (c : Bool) : (setCA c s).cr0 = s.cr0 := rfl
@[simp] theorem setCA_xer (s : State) (c : Bool) : (setCA c s).xer = { s.xer with ca := c } := rfl
@[simp] theorem setCA_msr (s : State) (c : Bool) : (setCA c s).msr = s.msr := rfl
@[simp] theorem setCA_iar (s : State) (c : Bool) : (setCA c s).iar = s.iar := rfl
@[simp] theorem setCA_ir (s : State) (c : Bool) : (setCA c s).ir = s.ir := rfl
@[simp] theorem setCA_lr (s : State) (c : Bool) : (setCA c s).lr = s.lr := rfl
@[simp] theorem setCA_ctr (s : State) (c : Bool) : (setCA c s).ctr = s.ctr := rfl
@[simp] theorem setCA_dec (s : State) (c : Bool) : (setCA c s).dec = s.dec := rfl
@[simp] theorem setCA_srr0 (s : State) (c : Bool) : (setCA c s).srr0 = s.srr0 := rfl
@[simp] theorem setCA_srr1 (s : State) (c : Bool) : (setCA c s).srr1 = s.srr1 := rfl
@[simp] theorem setCA_edr (s : State) (c : Bool) : (setCA c s).edr = s.edr := rfl
@[simp] theorem setCA_isr (s : State) (c : Bool) : (setCA c s).isr = s.isr := rfl
@[simp] theorem setCA_sprg0 (s : State) (c : Bool) : (setCA c s).sprg0 = s.sprg0 := rfl
@[simp] theorem setCA_dbcr (s : State) (c : Bool) : (setCA c s).dbcr = s.dbcr := rfl
@[simp] theorem setCA_dacr (s : State) (c : Bool) : (setCA c s).dacr = s.dacr := rfl
@[simp] theorem setCA_tsr (s : State) (c : Bool) : (setCA c s).tsr = s.tsr := rfl
@[simp] theorem setCA_tcr (s : State) (c : Bool) : (setCA c s).tcr = s.tcr := rfl
@[simp] theorem setCA_xsr (s : State) (c : Bool) : (setCA c s).xsr = s.xsr := rfl
@[simp] theorem setCA_pins (s : State) (c : Bool) : (setCA c s).pins = s.pins := rfl
@[simp] theorem setCA_out (s : State) (c : Bool) : (setCA c s).out = s.out := rfl
@[simp] theorem setCA_resetting (s : State) (c : Bool) : (setCA c s).resetting = s.resetting := rfl
@[simp] theorem setCA_pending (s : State) (c : Bool) : (setCA c s).pending = s.pending := rfl
@[simp] theorem setCA_mem (s : State) (c : Bool) : (setCA c s).mem = s.mem := rfl
@[simp] theorem setCA_sys (s : State) (c : Bool) : (setCA c s).sys = s.sys := rfl
@[simp] theorem setCA_stimuli (s : State) (c : Bool) : (setCA c s).stimuli = s.stimuli := rfl
@[simp] theorem setCA_reply (s : State) (c : Bool) : (setCA c s).reply = s.reply := rfl
@[simp] theorem setCA_free (s : State) (c : Bool) : (setCA c s).free = s.free := rfl

/-! ### `setOV` -/

@[simp] theorem setOV_cfg (s : State) (v : Bool) : (setOV v s).cfg = s.cfg := rfl
@[simp] theorem setOV_gpr (s : State) (v : Bool) : (setOV v s).gpr = s.gpr := rfl
@[simp] theorem setOV_cr0 (s : State) (v : Bool) : (setOV v s).cr0 = s.cr0 := rfl
@[simp] theorem setOV_xer (s : State) (v : Bool) : (setOV v s).xer = { s.xer with ov := v, so := s.xer.so || v } := rfl
@[simp] theorem setOV_msr (s : State) (v : Bool) : (setOV v s).msr = s.msr := rfl
@[simp] theorem setOV_iar (s : State) (v : Bool) : (setOV v s).iar = s.iar := rfl
@[simp] theorem setOV_ir (s : State) (v : Bool) : (setOV v s).ir = s.ir := rfl
@[simp] theorem setOV_lr (s : State) (v : Bool) : (setOV v s).lr = s.lr := rfl
@[simp] theorem setOV_ctr (s : State) (v : Bool) : (setOV v s).ctr = s.ctr := rfl
@[simp] theorem setOV_dec (s : State) (v : Bool) : (setOV v s).dec = s.dec := rfl
@[simp] theorem setOV_srr0 (s : State) (v : Bool) : (setOV v s).srr0 = s.srr0 := rfl
@[simp] theorem setOV_srr1 (s : State) (v : Bool) : (setOV v s).srr1 = s.srr1 := rfl
@[simp] theorem setOV_edr (s : State) (v : Bool) : (setOV v s).edr = s.edr := rfl
@[simp] theorem setOV_isr (s : State) (v : Bool) : (setOV v s).isr = s.isr := rfl
@[simp] theorem setOV_sprg0 (s : State) (v : Bool) : (setOV v s).sprg0 = s.sprg0 := rfl
@[simp] theorem setOV_dbcr (s : State) (v : Bool) : (setOV v s).dbcr = s.dbcr := rfl
@[simp] theorem setOV_dacr (s : State) (v : Bool) : (setOV v s).dacr = s.dacr := rfl
@[simp] theorem setOV_tsr (s : State) (v : Bool) : (setOV v s).tsr = s.tsr := rfl
@[simp] theorem setOV_tcr (s : State) (v : Bool) : (setOV v s).tcr = s.tcr := rfl
@[simp] theorem setOV_xsr (s : State) (v : Bool) : (setOV v s).xsr = s.xsr := rfl
@[simp] theorem setOV_pins (s : State) (v : Bool) : (setOV v s).pins = s.pins := rfl
@[simp] theorem setOV_out (s : State) (v : Bool) : (setOV v s).out = s.out := rfl
@[simp] theorem setOV_resetting (s : State) (v : Bool) : (setOV v s).resetting = s.resetting := rfl
@[simp] theorem setOV_pending (s : State) (v : Bool) : (setOV v s).pending = s.pending := rfl
@[simp] theorem setOV_mem (s : State) (v : Bool) : (setOV v s).mem = s.mem := rfl
@[simp] theorem setOV_sys (s : State) (v : Bool) : (setOV v s).sys = s.sys := rfl
@[simp] theorem setOV_stimuli (s : State) (v : Bool) : (setOV v s).stimuli = s.stimuli := rfl
@[simp] theorem setOV_reply (s : State) (v : Bool) : (setOV v s).reply = s.reply := rfl
@[simp] theorem setOV_free (s : State) (v : Bool) : (setOV v s).free = s.free := rfl

/-! ### `setCR0` -/

@[simp] theorem setCR0_cfg (s : State) (r : Word) : (setCR0 r s).cfg = s.cfg := rfl
@[simp] theorem setCR0_gpr (s : State) (r : Word) : (setCR0 r s).gpr = s.gpr := rfl
@[simp] theorem setCR0_xer (s : State) (r : Word) : (setCR0 r s).xer = s.xer := rfl
@[simp] theorem setCR0_msr (s : State) (r : Word) : (setCR0 r s).msr = s.msr := rfl
@[simp] theorem setCR0_iar (s : State) (r : Word) : (setCR0 r s).iar = s.iar := rfl
@[simp] theorem setCR0_ir (s : State) (r : Word) : (setCR0 r s).ir = s.ir := rfl
@[simp] theorem setCR0_lr (s : State) (r : Word) : (setCR0 r s).lr = s.lr := rfl
@[simp] theorem setCR0_ctr (s : State) (r : Word) : (setCR0 r s).ctr = s.ctr := rfl
@[simp] theorem setCR0_dec (s : State) (r : Word) : (setCR0 r s).dec = s.dec := rfl
@[simp] theorem setCR0_srr0 (s : State) (r : Word) : (setCR0 r s).srr0 = s.srr0 := rfl
@[simp] theorem setCR0_srr1 (s : State) (r : Word) : (setCR0 r s).srr1 = s.srr1 := rfl
@[simp] theorem setCR0_edr (s : State) (r : Word) : (setCR0 r s).edr = s.edr := rfl
@[simp] theorem setCR0_isr (s : State) (r : Word) : (setCR0 r s).isr = s.isr := rfl
@[simp] theorem setCR0_sprg0 (s : State) (r : Word) : (setCR0 r s).sprg0 = s.sprg0 := rfl
@[simp] theorem setCR0_dbcr (s : State) (r : Word) : (setCR0 r s).dbcr = s.dbcr := rfl
@[simp] theorem setCR0_dacr (s : State) (r : Word) : (setCR0 r s).dacr = s.dacr := rfl
@[simp] theorem setCR0_tsr (s : State) (r : Word) : (setCR0 r s).tsr = s.tsr := rfl
@[simp] theorem setCR0_tcr (s : State) (r : Word) : (setCR0 r s).tcr = s.tcr := rfl
@[simp] theorem setCR0_xsr (s : State) (r : Word) : (setCR0 r s).xsr = s.xsr := rfl
@[simp] theorem setCR0_pins (s : State) (r : Word) : (setCR0 r s).pins = s.pins := rfl
@[simp] theorem setCR0_out (s : State) (r : Word) : (setCR0 r s).out = s.out := rfl
@[simp] theorem setCR0_resetting (s : State) (r : Word) : (setCR0 r s).resetting = s.resetting := rfl
@[simp] theorem setCR0_pending (s : State) (r : Word) : (setCR0 r s).pending = s.pending := rfl
@[simp] theorem setCR0_mem (s : State) (r : Word) : (setCR0 r s).mem = s.mem := rfl
@[simp] theorem setCR0_sys (s : State) (r : Word) : (setCR0 r s).sys = s.sys := rfl
@[simp] theorem setCR0_stimuli (s : State) (r : Word) : (setCR0 r s).stimuli = s.stimuli := rfl
@[simp] theorem setCR0_reply (s : State) (r : Word) : (setCR0 r s).reply = s.reply := rfl
@[simp] theorem setCR0_free (s : State) (r : Word) : (setCR0 r s).free = s.free := rfl

/-! ### `setCR0Dword` -/

@[simp] theorem setCR0Dword_cfg (s : State) (r : Dword) : (setCR0Dword r s).cfg = s.cfg := rfl
@[simp] theorem setCR0Dword_gpr (s : State) (r : Dword) : (setCR0Dword r s).gpr = s.gpr := rfl
@[simp] theorem setCR0Dword_xer (s : State) (r : Dword) : (setCR0Dword r s).xer = s.xer := rfl
@[simp] theorem setCR0Dword_msr (s : State) (r : Dword) : (setCR0Dword r s).msr = s.msr := rfl
@[simp] theorem setCR0Dword_iar (s : State) (r : Dword) : (setCR0Dword r s).iar = s.iar := rfl
@[simp] theorem setCR0Dword_ir (s : State) (r : Dword) : (setCR0Dword r s).ir = s.ir := rfl
@[simp] theorem setCR0Dword_lr (s : State) (r : Dword) : (setCR0Dword r s).lr = s.lr := rfl
@[simp] theorem setCR0Dword_ctr (s : State) (r : Dword) : (setCR0Dword r s).ctr = s.ctr := rfl
@[simp] theorem setCR0Dword_dec (s : State) (r : Dword) : (setCR0Dword r s).dec = s.dec := rfl
@[simp] theorem setCR0Dword_srr0 (s : State) (r : Dword) : (setCR0Dword r s).srr0 = s.srr0 := rfl
@[simp] theorem setCR0Dword_srr1 (s : State) (r : Dword) : (setCR0Dword r s).srr1 = s.srr1 := rfl
@[simp] theorem setCR0Dword_edr (s : State) (r : Dword) : (setCR0Dword r s).edr = s.edr := rfl
@[simp] theorem setCR0Dword_isr (s : State) (r : Dword) : (setCR0Dword r s).isr = s.isr := rfl
@[simp] theorem setCR0Dword_sprg0 (s : State) (r : Dword) : (setCR0Dword r s).sprg0 = s.sprg0 := rfl
@[simp] theorem setCR0Dword_dbcr (s : State) (r : Dword) : (setCR0Dword r s).dbcr = s.dbcr := rfl
@[simp] theorem setCR0Dword_dacr (s : State) (r : Dword) : (setCR0Dword r s).dacr = s.dacr := rfl
@[simp] theorem setCR0Dword_tsr (s : State) (r : Dword) : (setCR0Dword r s).tsr = s.tsr := rfl
@[simp] theorem setCR0Dword_tcr (s : State) (r : Dword) : (setCR0Dword r s).tcr = s.tcr := rfl
@[simp] theorem setCR0Dword_xsr (s : State) (r : Dword) : (setCR0Dword r s).xsr = s.xsr := rfl
@[simp] theorem setCR0Dword_pins (s : State) (r : Dword) : (setCR0Dword r s).pins = s.pins := rfl
@[simp] theorem setCR0Dword_out (s : State) (r : Dword) : (setCR0Dword r s).out = s.out := rfl
@[simp] theorem setCR0Dword_resetting (s : State) (r : Dword) : (setCR0Dword r s).resetting = s.resetting := rfl
@[simp] theorem setCR0Dword_pending (s : State) (r : Dword) : (setCR0Dword r s).pending = s.pending := rfl
@[simp] theorem setCR0Dword_mem (s : State) (r : Dword) : (setCR0Dword r s).mem = s.mem := rfl
@[simp] theorem setCR0Dword_sys (s : State) (r : Dword) : (setCR0Dword r s).sys = s.sys := rfl
@[simp] theorem setCR0Dword_stimuli (s : State) (r : Dword) : (setCR0Dword r s).stimuli = s.stimuli := rfl
@[simp] theorem setCR0Dword_reply (s : State) (r : Dword) : (setCR0Dword r s).reply = s.reply := rfl
@[simp] theorem setCR0Dword_free (s : State) (r : Dword) : (setCR0Dword r s).free = s.free := rfl

/-! ### `cmpCR0` -/

@[simp] theorem cmpCR0_cfg (s : State) (a b : Word) (signed : Bool) : (cmpCR0 a b signed s).cfg = s.cfg := rfl
@[simp] theorem cmpCR0_gpr (s : State) (a b : Word) (signed : Bool) : (cmpCR0 a b signed s).gpr = s.gpr := rfl
@[simp] theorem cmpCR0_xer (s : State) (a b : Word) (signed : Bool) : (cmpCR0 a b signed s).xer = s.xer := rfl
@[simp] theorem cmpCR0_msr (s : State) (a b : Word) (signed : Bool) : (cmpCR0 a b signed s).msr = s.msr := rfl
@[simp] theorem cmpCR0_iar (s : State) (a b : Word) (signed : Bool) : (cmpCR0 a b signed s).iar = s.iar := rfl
@[simp] theorem cmpCR0_ir (s : State) (a b : Word) (signed : Bool) : (cmpCR0 a b signed s).ir = s.ir := rfl
@[simp] theorem cmpCR0_lr (s : State) (a b : Word) (signed : Bool) : (cmpCR0 a b signed s).lr = s.lr := rfl
@[simp] theorem cmpCR0_ctr (s : State) (a b : Word) (signed : Bool) : (cmpCR0 a b signed s).ctr = s.ctr := rfl
@[simp] theorem cmpCR0_dec (s : State) (a b : Word) (signed : Bool) : (cmpCR0 a b signed s).dec = s.dec := rfl
@[simp] theorem cmpCR0_srr0 (s : State) (a b : Word) (signed : Bool) : (cmpCR0 a b signed s).srr0 = s.srr0 := rfl
@[simp] theorem cmpCR0_srr1 (s : State) (a b : Word) (signed : Bool) : (cmpCR0 a b signed s).srr1 = s.srr1 := rfl
@[simp] theorem cmpCR0_edr (s : State) (a b : Word) (signed : Bool) : (cmpCR0 a b signed s).edr = s.edr := rfl
@[simp] theorem cmpCR0_isr (s : State) (a b : Word) (signed : Bool) : (cmpCR0 a b signed s).isr = s.isr := rfl
@[simp] theorem cmpCR0_sprg0 (s : State) (a b : Word) (signed : Bool) : (cmpCR0 a b signed s).sprg0 = s.sprg0 := rfl
@[simp] theorem cmpCR0_dbcr (s : State) (a b : Word) (signed : Bool) : (cmpCR0 a b signed s).dbcr = s.dbcr := rfl
@[simp] theorem cmpCR0_dacr (s : State) (a b : Word) (signed : Bool) : (cmpCR0 a b signed s).dacr = s.dacr := rfl
@[simp] theorem cmpCR0_tsr (s : State) (a b : Word) (signed : Bool) : (cmpCR0 a b signed s).tsr = s.tsr := rfl
@[simp] theorem cmpCR0_tcr (s : State) (a b : Word) (signed : Bool) : (cmpCR0 a b signed s).tcr = s.tcr := rfl
@[simp] theorem cmpCR0_xsr (s : State) (a b : Word) (signed : Bool) : (cmpCR0 a b signed s).xsr = s.xsr := rfl
@[simp] theorem cmpCR0_pins (s : State) (a b : Word) (signed : Bool) : (cmpCR0 a b signed s).pins = s.pins := rfl
@[simp] theorem cmpCR0_out (s : State) (a b : Word) (signed : Bool) : (cmpCR0 a b signed s).out = s.out := rfl
@[simp] theorem cmpCR0_resetting (s : State) (a b : Word) (signed : Bool) : (cmpCR0 a b signed s).resetting = s.resetting := rfl
@[simp] theorem cmpCR0_pending (s : State) (a b : Word) (signed : Bool) : (cmpCR0 a b signed s).pending = s.pending := rfl
@[simp] theorem cmpCR0_mem (s : State) (a b : Word) (signed : Bool) : (cmpCR0 a b signed s).mem = s.mem := rfl
@[simp] theorem cmpCR0_sys (s : State) (a b : Word) (signed : Bool) : (cmpCR0 a b signed s).sys = s.sys := rfl
@[simp] theorem cmpCR0_stimuli (s : State) (a b : Word) (signed : Bool) : (cmpCR0 a b signed s).stimuli = s.stimuli := rfl
@[simp] theorem cmpCR0_reply (s : State) (a b : Word) (signed : Bool) : (cmpCR0 a b signed s).reply = s.reply := rfl
@[simp] theorem cmpCR0_free (s : State) (a b : Word) (signed : Bool) : (cmpCR0 a b signed s).free = s.free := rfl

/-! ### `record` -/

@[simp] theorem record_cfg (s : State) (rc : Bool) (r : Word) : (record rc r s).cfg = s.cfg := by unfold record; split <;> rfl
@[simp] theorem record_gpr (s : State) (rc : Bool) (r : Word) : (record rc r s).gpr = s.gpr := by unfold record; split <;> rfl
@[simp] theorem record_xer (s : State) (rc : Bool) (r : Word) : (record rc r s).xer = s.xer := by unfold record; split <;> rfl
@[simp] theorem record_msr (s : State) (rc : Bool) (r : Word) : (record rc r s).msr = s.msr := by unfold record; split <;> rfl
@[simp] theorem record_iar (s : State) (rc : Bool) (r : Word) : (record rc r s).iar = s.iar := by unfold record; split <;> rfl
@[simp] theorem record_ir (s : State) (rc : Bool) (r : Word) : (record rc r s).ir = s.ir := by unfold record; split <;> rfl
@[simp] theorem record_lr (s : State) (rc : Bool) (r : Word) : (record rc r s).lr = s.lr := by unfold record; split <;> rfl
@[simp] theorem record_ctr (s : State) (rc : Bool) (r : Word) : (record rc r s).ctr = s.ctr := by unfold record; split <;> rfl
@[simp] theorem record_dec (s : State) (rc : Bool) (r : Word) : (record rc r s).dec = s.dec := by unfold record; split <;> rfl
@[simp] theorem record_srr0 (s : State) (rc : Bool) (r : Word) : (record rc r s).srr0 = s.srr0 := by unfold record; split <;> rfl
@[simp] theorem record_srr1 (s : State) (rc : Bool) (r : Word) : (record rc r s).srr1 = s.srr1 := by unfold record; split <;> rfl
@[simp] theorem record_edr (s : State) (rc : Bool) (r : Word) : (record rc r s).edr = s.edr := by unfold record; split <;> rfl
@[simp] theorem record_isr (s : State) (rc : Bool) (r : Word) : (record rc r s).isr = s.isr := by unfold record; split <;> rfl
@[simp] theorem record_sprg0 (s : State) (rc : Bool) (r : Word) : (record rc r s).sprg0 = s.sprg0 := by unfold record; split <;> rfl
@[simp] theorem record_dbcr (s : State) (rc : Bool) (r : Word) : (record rc r s).dbcr = s.dbcr := by unfold record; split <;> rfl
@[simp] theorem record_dacr (s : State) (rc : Bool) (r : Word) : (record rc r s).dacr = s.dacr := by unfold record; split <;> rfl
@[simp] theorem record_tsr (s : State) (rc : Bool) (r : Word) : (record rc r s).tsr = s.tsr := by unfold record; split <;> rfl
@[simp] theorem record_tcr (s : State) (rc : Bool) (r : Word) : (record rc r s).tcr = s.tcr := by unfold record; split <;> rfl
@[simp] theorem record_xsr (s : State) (rc : Bool) (r : Word) : (record rc r s).xsr = s.xsr := by unfold record; split <;> rfl
@[simp] theorem record_pins (s : State) (rc : Bool) (r : Word) : (record rc r s).pins = s.pins := by unfold record; split <;> rfl
@[simp] theorem record_out (s : State) (rc : Bool) (r : Word) : (record rc r s).out = s.out := by unfold record; split <;> rfl
@[simp] theorem record_resetting (s : State) (rc : Bool) (r : Word) : (record rc r s).resetting = s.resetting := by unfold record; split <;> rfl
@[simp] theorem record_pending (s : State) (rc : Bool) (r : Word) : (record rc r s).pending = s.pending := by unfold record; split <;> rfl
@[simp] theorem record_mem (s : State) (rc : Bool) (r : Word) : (record rc r s).mem = s.mem := by unfold record; split <;> rfl
@[simp] theorem record_sys (s : State) (rc : Bool) (r : Word) : (record rc r s).sys = s.sys := by unfold record; split <;> rfl
@[simp] theorem record_stimuli (s : State) (rc : Bool) (r : Word) : (record rc r s).stimuli = s.stimuli := by unfold record; split <;> rfl
@[simp] theorem record_reply (s : State) (rc : Bool) (r : Word) : (record rc r s).reply = s.reply := by unfold record; split <;> rfl
@[simp] theorem record_free (s : State) (rc : Bool) (r : Word) : (record rc r s).free = s.free := by unfold record; split <;> rfl

/-! ### `recordDword` -/

@[simp] theorem recordDword_cfg (s : State) (rc : Bool) (r : Dword) : (recordDword rc r s).cfg = s.cfg := by unfold recordDword; split <;> rfl
@[simp] theorem recordDword_gpr (s : State) (rc : Bool) (r : Dword) : (recordDword rc r s).gpr = s.gpr := by unfold recordDword; split <;> rfl
@[simp] theorem recordDword_xer (s : State) (rc : Bool) (r : Dword) : (recordDword rc r s).xer = s.xer := by unfold recordDword; split <;> rfl
@[simp] theorem recordDword_msr (s : State) (rc : Bool) (r : Dword) : (recordDword rc r s).msr = s.msr := by unfold recordDword; split <;> rfl
@[simp] theorem recordDword_iar (s : State) (rc : Bool) (r : Dword) : (recordDword rc r s).iar = s.iar := by unfold recordDword; split <;> rfl
@[simp] theorem recordDword_ir (s : State) (rc : Bool) (r : Dword) : (recordDword rc r s).ir = s.ir := by unfold recordDword; split <;> rfl
@[simp] theorem recordDword_lr (s : State) (rc : Bool) (r : Dword) : (recordDword rc r s).lr = s.lr := by unfold recordDword; split <;> rfl
@[simp] theorem recordDword_ctr (s : State) (rc : Bool) (r : Dword) : (recordDword rc r s).ctr = s.ctr := by unfold recordDword; split <;> rfl
@[simp] theorem recordDword_dec (s : State) (rc : Bool) (r : Dword) : (recordDword rc r s).dec = s.dec := by unfold recordDword; split <;> rfl
@[simp] theorem recordDword_srr0 (s : State) (rc : Bool) (r : Dword) : (recordDword rc r s).srr0 = s.srr0 := by unfold recordDword; split <;> rfl
@[simp] theorem recordDword_srr1 (s : State) (rc : Bool) (r : Dword) : (recordDword rc r s).srr1 = s.srr1 := by unfold recordDword; split <;> rfl
@[simp] theorem recordDword_edr (s : State) (rc : Bool) (r : Dword) : (recordDword rc r s).edr = s.edr := by unfold recordDword; split <;> rfl
@[simp] theorem recordDword_isr (s : State) (rc : Bool) (r : Dword) : (recordDword rc r s).isr = s.isr := by unfold recordDword; split <;> rfl
@[simp] theorem recordDword_sprg0 (s : State) (rc : Bool) (r : Dword) : (recordDword rc r s).sprg0 = s.sprg0 := by unfold recordDword; split <;> rfl
@[simp] theorem recordDword_dbcr (s : State) (rc : Bool) (r : Dword) : (recordDword rc r s).dbcr = s.dbcr := by unfold recordDword; split <;> rfl
@[simp] theorem recordDword_dacr (s : State) (rc : Bool) (r : Dword) : (recordDword rc r s).dacr = s.dacr := by unfold recordDword; split <;> rfl
@[simp] theorem recordDword_tsr (s : State) (rc : Bool) (r : Dword) : (recordDword rc r s).tsr = s.tsr := by unfold recordDword; split <;> rfl
@[simp] theorem recordDword_tcr (s : State) (rc : Bool) (r : Dword) : (recordDword rc r s).tcr = s.tcr := by unfold recordDword; split <;> rfl
@[simp] theorem recordDword_xsr (s : State) (rc : Bool) (r : Dword) : (recordDword rc r s).xsr = s.xsr := by unfold recordDword; split <;> rfl
@[simp] theorem recordDword_pins (s : State) (rc : Bool) (r : Dword) : (recordDword rc r s).pins = s.pins := by unfold recordDword; split <;> rfl
@[simp] theorem recordDword_out (s : State) (rc : Bool) (r : Dword) : (recordDword rc r s).out = s.out := by unfold recordDword; split <;> rfl
@[simp] theorem recordDword_resetting (s : State) (rc : Bool) (r : Dword) : (recordDword rc r s).resetting = s.resetting := by unfold recordDword; split <;> rfl
@[simp] theorem recordDword_pending (s : State) (rc : Bool) (r : Dword) : (recordDword rc r s).pending = s.pending := by unfold recordDword; split <;> rfl
@[simp] theorem recordDword_mem (s : State) (rc : Bool) (r : Dword) : (recordDword rc r s).mem = s.mem := by unfold recordDword; split <;> rfl
@[simp] theorem recordDword_sys (s : State) (rc : Bool) (r : Dword) : (recordDword rc r s).sys = s.sys := by unfold recordDword; split <;> rfl
@[simp] theorem recordDword_stimuli (s : State) (rc : Bool) (r : Dword) : (recordDword rc r s).stimuli = s.stimuli := by unfold recordDword; split <;> rfl
@[simp] theorem recordDword_reply (s : State) (rc : Bool) (r : Dword) : (recordDword rc r s).reply = s.reply := by unfold recordDword; split <;> rfl
@[simp] theorem recordDword_free (s : State) (rc : Bool) (r : Dword) : (recordDword rc r s).free = s.free := by unfold recordDword; split <;> rfl

/-! ### `overflow` -/

@[simp] theorem overflow_cfg (s : State) (oe v : Bool) : (overflow oe v s).cfg = s.cfg := by unfold overflow; split <;> rfl
@[simp] theorem overflow_gpr (s : State) (oe v : Bool) : (overflow oe v s).gpr = s.gpr := by unfold overflow; split <;> rfl
@[simp] theorem overflow_cr0 (s : State) (oe v : Bool) : (overflow oe v s).cr0 = s.cr0 := by unfold overflow; split <;> rfl
@[simp] theorem overflow_msr (s : State) (oe v : Bool) : (overflow oe v s).msr = s.msr := by unfold overflow; split <;> rfl
@[simp] theorem overflow_iar (s : State) (oe v : Bool) : (overflow oe v s).iar = s.iar := by unfold overflow; split <;> rfl
@[simp] theorem overflow_ir (s : State) (oe v : Bool) : (overflow oe v s).ir = s.ir := by unfold overflow; split <;> rfl
@[simp] theorem overflow_lr (s : State) (oe v : Bool) : (overflow oe v s).lr = s.lr := by unfold overflow; split <;> rfl
@[simp] theorem overflow_ctr (s : State) (oe v : Bool) : (overflow oe v s).ctr = s.ctr := by unfold overflow; split <;> rfl
@[simp] theorem overflow_dec (s : State) (oe v : Bool) : (overflow oe v s).dec = s.dec := by unfold overflow; split <;> rfl
@[simp] theorem overflow_srr0 (s : State) (oe v : Bool) : (overflow oe v s).srr0 = s.srr0 := by unfold overflow; split <;> rfl
@[simp] theorem overflow_srr1 (s : State) (oe v : Bool) : (overflow oe v s).srr1 = s.srr1 := by unfold overflow; split <;> rfl
@[simp] theorem overflow_edr (s : State) (oe v : Bool) : (overflow oe v s).edr = s.edr := by unfold overflow; split <;> rfl
@[simp] theorem overflow_isr (s : State) (oe v : Bool) : (overflow oe v s).isr = s.isr := by unfold overflow; split <;> rfl
@[simp] theorem overflow_sprg0 (s : State) (oe v : Bool) : (overflow oe v s).sprg0 = s.sprg0 := by unfold overflow; split <;> rfl
@[simp] theorem overflow_dbcr (s : State) (oe v : Bool) : (overflow oe v s).dbcr = s.dbcr := by unfold overflow; split <;> rfl
@[simp] theorem overflow_dacr (s : State) (oe v : Bool) : (overflow oe v s).dacr = s.dacr := by unfold overflow; split <;> rfl
@[simp] theorem overflow_tsr (s : State) (oe v : Bool) : (overflow oe v s).tsr = s.tsr := by unfold overflow; split <;> rfl
@[simp] theorem overflow_tcr (s : State) (oe v : Bool) : (overflow oe v s).tcr = s.tcr := by unfold overflow; split <;> rfl
@[simp] theorem overflow_xsr (s : State) (oe v : Bool) : (overflow oe v s).xsr = s.xsr := by unfold overflow; split <;> rfl
@[simp] theorem overflow_pins (s : State) (oe v : Bool) : (overflow oe v s).pins = s.pins := by unfold overflow; split <;> rfl
@[simp] theorem overflow_out (s : State) (oe v : Bool) : (overflow oe v s).out = s.out := by unfold overflow; split <;> rfl
@[simp] theorem overflow_resetting (s : State) (oe v : Bool) : (overflow oe v s).resetting = s.resetting := by unfold overflow; split <;> rfl
@[simp] theorem overflow_pending (s : State) (oe v : Bool) : (overflow oe v s).pending = s.pending := by unfold overflow; split <;> rfl
@[simp] theorem overflow_mem (s : State) (oe v : Bool) : (overflow oe v s).mem = s.mem := by unfold overflow; split <;> rfl
@[simp] theorem overflow_sys (s : State) (oe v : Bool) : (overflow oe v s).sys = s.sys := by unfold overflow; split <;> rfl
@[simp] theorem overflow_stimuli (s : State) (oe v : Bool) : (overflow oe v s).stimuli = s.stimuli := by unfold overflow; split <;> rfl
@[simp] theorem overflow_reply (s : State) (oe v : Bool) : (overflow oe v s).reply = s.reply := by unfold overflow; split <;> rfl
@[simp] theorem overflow_free (s : State) (oe v : Bool) : (overflow oe v s).free = s.free := by unfold overflow; split <;> rfl

/-! ### `raiseHalt` -/

@[simp] theorem raiseHalt_cfg (s : State) (c : BitVec 3) : (raiseHalt c s).cfg = s.cfg := rfl
@[simp] theorem raiseHalt_gpr (s : State) (c : BitVec 3) : (raiseHalt c s).gpr = s.gpr := rfl
@[simp] theorem raiseHalt_cr0 (s : State) (c : BitVec 3) : (raiseHalt c s).cr0 = s.cr0 := rfl
@[simp] theorem raiseHalt_xer (s : State) (c : BitVec 3) : (raiseHalt c s).xer = s.xer := rfl
@[simp] theorem raiseHalt_msr (s : State) (c : BitVec 3) : (raiseHalt c s).msr = s.msr := rfl
@[simp] theorem raiseHalt_iar (s : State) (c : BitVec 3) : (raiseHalt c s).iar = s.iar := rfl
@[simp] theorem raiseHalt_ir (s : State) (c : BitVec 3) : (raiseHalt c s).ir = s.ir := rfl
@[simp] theorem raiseHalt_lr (s : State) (c : BitVec 3) : (raiseHalt c s).lr = s.lr := rfl
@[simp] theorem raiseHalt_ctr (s : State) (c : BitVec 3) : (raiseHalt c s).ctr = s.ctr := rfl
@[simp] theorem raiseHalt_dec (s : State) (c : BitVec 3) : (raiseHalt c s).dec = s.dec := rfl
@[simp] theorem raiseHalt_srr0 (s : State) (c : BitVec 3) : (raiseHalt c s).srr0 = s.srr0 := rfl
@[simp] theorem raiseHalt_srr1 (s : State) (c : BitVec 3) : (raiseHalt c s).srr1 = s.srr1 := rfl
@[simp] theorem raiseHalt_edr (s : State) (c : BitVec 3) : (raiseHalt c s).edr = s.edr := rfl
@[simp] theorem raiseHalt_isr (s : State) (c : BitVec 3) : (raiseHalt c s).isr = s.isr := rfl
@[simp] theorem raiseHalt_sprg0 (s : State) (c : BitVec 3) : (raiseHalt c s).sprg0 = s.sprg0 := rfl
@[simp] theorem raiseHalt_dbcr (s : State) (c : BitVec 3) : (raiseHalt c s).dbcr = s.dbcr := rfl
@[simp] theorem raiseHalt_dacr (s : State) (c : BitVec 3) : (raiseHalt c s).dacr = s.dacr := rfl
@[simp] theorem raiseHalt_tsr (s : State) (c : BitVec 3) : (raiseHalt c s).tsr = s.tsr := rfl
@[simp] theorem raiseHalt_tcr (s : State) (c : BitVec 3) : (raiseHalt c s).tcr = s.tcr := rfl
@[simp] theorem raiseHalt_xsr (s : State) (c : BitVec 3) : (raiseHalt c s).xsr = { s.xsr with hcp := true, hc := if s.xsr.hc = 0 then c else s.xsr.hc } := rfl
@[simp] theorem raiseHalt_pins (s : State) (c : BitVec 3) : (raiseHalt c s).pins = s.pins := rfl
@[simp] theorem raiseHalt_out (s : State) (c : BitVec 3) : (raiseHalt c s).out = s.out := rfl
@[simp] theorem raiseHalt_resetting (s : State) (c : BitVec 3) : (raiseHalt c s).resetting = s.resetting := rfl
@[simp] theorem raiseHalt_pending (s : State) (c : BitVec 3) : (raiseHalt c s).pending = s.pending := rfl
@[simp] theorem raiseHalt_mem (s : State) (c : BitVec 3) : (raiseHalt c s).mem = s.mem := rfl
@[simp] theorem raiseHalt_sys (s : State) (c : BitVec 3) : (raiseHalt c s).sys = s.sys := rfl
@[simp] theorem raiseHalt_stimuli (s : State) (c : BitVec 3) : (raiseHalt c s).stimuli = s.stimuli := rfl
@[simp] theorem raiseHalt_reply (s : State) (c : BitVec 3) : (raiseHalt c s).reply = s.reply := rfl
@[simp] theorem raiseHalt_free (s : State) (c : BitVec 3) : (raiseHalt c s).free = s.free := rfl

/-! ### `recordDebug` -/

@[simp] theorem recordDebug_cfg (s : State) (e : DebugEvent) : (recordDebug e s).cfg = s.cfg := by cases e <;> rfl
@[simp] theorem recordDebug_gpr (s : State) (e : DebugEvent) : (recordDebug e s).gpr = s.gpr := by cases e <;> rfl
@[simp] theorem recordDebug_cr0 (s : State) (e : DebugEvent) : (recordDebug e s).cr0 = s.cr0 := by cases e <;> rfl
@[simp] theorem recordDebug_xer (s : State) (e : DebugEvent) : (recordDebug e s).xer = s.xer := by cases e <;> rfl
@[simp] theorem recordDebug_msr (s : State) (e : DebugEvent) : (recordDebug e s).msr = s.msr := by cases e <;> rfl
@[simp] theorem recordDebug_iar (s : State) (e : DebugEvent) : (recordDebug e s).iar = s.iar := by cases e <;> rfl
@[simp] theorem recordDebug_ir (s : State) (e : DebugEvent) : (recordDebug e s).ir = s.ir := by cases e <;> rfl
@[simp] theorem recordDebug_lr (s : State) (e : DebugEvent) : (recordDebug e s).lr = s.lr := by cases e <;> rfl
@[simp] theorem recordDebug_ctr (s : State) (e : DebugEvent) : (recordDebug e s).ctr = s.ctr := by cases e <;> rfl
@[simp] theorem recordDebug_dec (s : State) (e : DebugEvent) : (recordDebug e s).dec = s.dec := by cases e <;> rfl
@[simp] theorem recordDebug_srr0 (s : State) (e : DebugEvent) : (recordDebug e s).srr0 = s.srr0 := by cases e <;> rfl
@[simp] theorem recordDebug_srr1 (s : State) (e : DebugEvent) : (recordDebug e s).srr1 = s.srr1 := by cases e <;> rfl
@[simp] theorem recordDebug_edr (s : State) (e : DebugEvent) : (recordDebug e s).edr = s.edr := by cases e <;> rfl
@[simp] theorem recordDebug_isr (s : State) (e : DebugEvent) : (recordDebug e s).isr = s.isr := by cases e <;> rfl
@[simp] theorem recordDebug_sprg0 (s : State) (e : DebugEvent) : (recordDebug e s).sprg0 = s.sprg0 := by cases e <;> rfl
@[simp] theorem recordDebug_dbcr (s : State) (e : DebugEvent) : (recordDebug e s).dbcr = s.dbcr := by cases e <;> rfl
@[simp] theorem recordDebug_dacr (s : State) (e : DebugEvent) : (recordDebug e s).dacr = s.dacr := by cases e <;> rfl
@[simp] theorem recordDebug_tsr (s : State) (e : DebugEvent) : (recordDebug e s).tsr = s.tsr := by cases e <;> rfl
@[simp] theorem recordDebug_tcr (s : State) (e : DebugEvent) : (recordDebug e s).tcr = s.tcr := by cases e <;> rfl
@[simp] theorem recordDebug_pins (s : State) (e : DebugEvent) : (recordDebug e s).pins = s.pins := by cases e <;> rfl
@[simp] theorem recordDebug_out (s : State) (e : DebugEvent) : (recordDebug e s).out = s.out := by cases e <;> rfl
@[simp] theorem recordDebug_resetting (s : State) (e : DebugEvent) : (recordDebug e s).resetting = s.resetting := by cases e <;> rfl
@[simp] theorem recordDebug_pending (s : State) (e : DebugEvent) : (recordDebug e s).pending = s.pending := by cases e <;> rfl
@[simp] theorem recordDebug_mem (s : State) (e : DebugEvent) : (recordDebug e s).mem = s.mem := by cases e <;> rfl
@[simp] theorem recordDebug_sys (s : State) (e : DebugEvent) : (recordDebug e s).sys = s.sys := by cases e <;> rfl
@[simp] theorem recordDebug_stimuli (s : State) (e : DebugEvent) : (recordDebug e s).stimuli = s.stimuli := by cases e <;> rfl
@[simp] theorem recordDebug_reply (s : State) (e : DebugEvent) : (recordDebug e s).reply = s.reply := by cases e <;> rfl
@[simp] theorem recordDebug_free (s : State) (e : DebugEvent) : (recordDebug e s).free = s.free := by cases e <;> rfl

/-! ### `recordMachineCheck` -/

@[simp] theorem recordMachineCheck_cfg (s : State) (f : Bool) (c : BitVec 3) : (recordMachineCheck f c s).cfg = s.cfg := rfl
@[simp] theorem recordMachineCheck_gpr (s : State) (f : Bool) (c : BitVec 3) : (recordMachineCheck f c s).gpr = s.gpr := rfl
@[simp] theorem recordMachineCheck_cr0 (s : State) (f : Bool) (c : BitVec 3) : (recordMachineCheck f c s).cr0 = s.cr0 := rfl
@[simp] theorem recordMachineCheck_xer (s : State) (f : Bool) (c : BitVec 3) : (recordMachineCheck f c s).xer = s.xer := rfl
@[simp] theorem recordMachineCheck_msr (s : State) (f : Bool) (c : BitVec 3) : (recordMachineCheck f c s).msr = s.msr := rfl
@[simp] theorem recordMachineCheck_iar (s : State) (f : Bool) (c : BitVec 3) : (recordMachineCheck f c s).iar = s.iar := rfl
@[simp] theorem recordMachineCheck_ir (s : State) (f : Bool) (c : BitVec 3) : (recordMachineCheck f c s).ir = s.ir := rfl
@[simp] theorem recordMachineCheck_lr (s : State) (f : Bool) (c : BitVec 3) : (recordMachineCheck f c s).lr = s.lr := rfl
@[simp] theorem recordMachineCheck_ctr (s : State) (f : Bool) (c : BitVec 3) : (recordMachineCheck f c s).ctr = s.ctr := rfl
@[simp] theorem recordMachineCheck_dec (s : State) (f : Bool) (c : BitVec 3) : (recordMachineCheck f c s).dec = s.dec := rfl
@[simp] theorem recordMachineCheck_srr0 (s : State) (f : Bool) (c : BitVec 3) : (recordMachineCheck f c s).srr0 = s.srr0 := rfl
@[simp] theorem recordMachineCheck_srr1 (s : State) (f : Bool) (c : BitVec 3) : (recordMachineCheck f c s).srr1 = s.srr1 := rfl
@[simp] theorem recordMachineCheck_edr (s : State) (f : Bool) (c : BitVec 3) : (recordMachineCheck f c s).edr = s.edr := rfl
@[simp] theorem recordMachineCheck_isr (s : State) (f : Bool) (c : BitVec 3) : (recordMachineCheck f c s).isr = setField (setBit s.isr 28 f) 29 c := rfl
@[simp] theorem recordMachineCheck_sprg0 (s : State) (f : Bool) (c : BitVec 3) : (recordMachineCheck f c s).sprg0 = s.sprg0 := rfl
@[simp] theorem recordMachineCheck_dbcr (s : State) (f : Bool) (c : BitVec 3) : (recordMachineCheck f c s).dbcr = s.dbcr := rfl
@[simp] theorem recordMachineCheck_dacr (s : State) (f : Bool) (c : BitVec 3) : (recordMachineCheck f c s).dacr = s.dacr := rfl
@[simp] theorem recordMachineCheck_tsr (s : State) (f : Bool) (c : BitVec 3) : (recordMachineCheck f c s).tsr = s.tsr := rfl
@[simp] theorem recordMachineCheck_tcr (s : State) (f : Bool) (c : BitVec 3) : (recordMachineCheck f c s).tcr = s.tcr := rfl
@[simp] theorem recordMachineCheck_xsr (s : State) (f : Bool) (c : BitVec 3) : (recordMachineCheck f c s).xsr = s.xsr := rfl
@[simp] theorem recordMachineCheck_pins (s : State) (f : Bool) (c : BitVec 3) : (recordMachineCheck f c s).pins = s.pins := rfl
@[simp] theorem recordMachineCheck_out (s : State) (f : Bool) (c : BitVec 3) : (recordMachineCheck f c s).out = s.out := rfl
@[simp] theorem recordMachineCheck_resetting (s : State) (f : Bool) (c : BitVec 3) : (recordMachineCheck f c s).resetting = s.resetting := rfl
@[simp] theorem recordMachineCheck_pending (s : State) (f : Bool) (c : BitVec 3) : (recordMachineCheck f c s).pending = s.pending := rfl
@[simp] theorem recordMachineCheck_mem (s : State) (f : Bool) (c : BitVec 3) : (recordMachineCheck f c s).mem = s.mem := rfl
@[simp] theorem recordMachineCheck_sys (s : State) (f : Bool) (c : BitVec 3) : (recordMachineCheck f c s).sys = s.sys := rfl
@[simp] theorem recordMachineCheck_stimuli (s : State) (f : Bool) (c : BitVec 3) : (recordMachineCheck f c s).stimuli = s.stimuli := rfl
@[simp] theorem recordMachineCheck_reply (s : State) (f : Bool) (c : BitVec 3) : (recordMachineCheck f c s).reply = s.reply := rfl
@[simp] theorem recordMachineCheck_free (s : State) (f : Bool) (c : BitVec 3) : (recordMachineCheck f c s).free = s.free := rfl

/-! ### `enter` -/

@[simp] theorem enter_cfg (s : State) (o : BitVec 9) (c : Bool) (a : Word) : (enter o c a s).cfg = s.cfg := rfl
@[simp] theorem enter_gpr (s : State) (o : BitVec 9) (c : Bool) (a : Word) : (enter o c a s).gpr = s.gpr := rfl
@[simp] theorem enter_cr0 (s : State) (o : BitVec 9) (c : Bool) (a : Word) : (enter o c a s).cr0 = s.cr0 := rfl
@[simp] theorem enter_xer (s : State) (o : BitVec 9) (c : Bool) (a : Word) : (enter o c a s).xer = s.xer := rfl
@[simp] theorem enter_msr (s : State) (o : BitVec 9) (c : Bool) (a : Word) : (enter o c a s).msr = s.msr &&& (if c then 0x00700000 else 0x00701000) := rfl
@[simp] theorem enter_iar (s : State) (o : BitVec 9) (c : Bool) (a : Word) : (enter o c a s).iar = vector s.cfg o := rfl
@[simp] theorem enter_ir (s : State) (o : BitVec 9) (c : Bool) (a : Word) : (enter o c a s).ir = s.ir := rfl
@[simp] theorem enter_lr (s : State) (o : BitVec 9) (c : Bool) (a : Word) : (enter o c a s).lr = s.lr := rfl
@[simp] theorem enter_ctr (s : State) (o : BitVec 9) (c : Bool) (a : Word) : (enter o c a s).ctr = s.ctr := rfl
@[simp] theorem enter_dec (s : State) (o : BitVec 9) (c : Bool) (a : Word) : (enter o c a s).dec = s.dec := rfl
@[simp] theorem enter_srr0 (s : State) (o : BitVec 9) (c : Bool) (a : Word) : (enter o c a s).srr0 = wordAlign a := rfl
@[simp] theorem enter_srr1 (s : State) (o : BitVec 9) (c : Bool) (a : Word) : (enter o c a s).srr1 = s.msr := rfl
@[simp] theorem enter_edr (s : State) (o : BitVec 9) (c : Bool) (a : Word) : (enter o c a s).edr = s.edr := rfl
@[simp] theorem enter_isr (s : State) (o : BitVec 9) (c : Bool) (a : Word) : (enter o c a s).isr = s.isr := rfl
@[simp] theorem enter_sprg0 (s : State) (o : BitVec 9) (c : Bool) (a : Word) : (enter o c a s).sprg0 = s.sprg0 := rfl
@[simp] theorem enter_dbcr (s : State) (o : BitVec 9) (c : Bool) (a : Word) : (enter o c a s).dbcr = s.dbcr := rfl
@[simp] theorem enter_dacr (s : State) (o : BitVec 9) (c : Bool) (a : Word) : (enter o c a s).dacr = s.dacr := rfl
@[simp] theorem enter_tsr (s : State) (o : BitVec 9) (c : Bool) (a : Word) : (enter o c a s).tsr = s.tsr := rfl
@[simp] theorem enter_tcr (s : State) (o : BitVec 9) (c : Bool) (a : Word) : (enter o c a s).tcr = s.tcr := rfl
@[simp] theorem enter_xsr (s : State) (o : BitVec 9) (c : Bool) (a : Word) : (enter o c a s).xsr = s.xsr := rfl
@[simp] theorem enter_pins (s : State) (o : BitVec 9) (c : Bool) (a : Word) : (enter o c a s).pins = s.pins := rfl
@[simp] theorem enter_out (s : State) (o : BitVec 9) (c : Bool) (a : Word) : (enter o c a s).out = s.out := rfl
@[simp] theorem enter_resetting (s : State) (o : BitVec 9) (c : Bool) (a : Word) : (enter o c a s).resetting = s.resetting := rfl
@[simp] theorem enter_pending (s : State) (o : BitVec 9) (c : Bool) (a : Word) : (enter o c a s).pending = s.pending := rfl
@[simp] theorem enter_mem (s : State) (o : BitVec 9) (c : Bool) (a : Word) : (enter o c a s).mem = s.mem := rfl
@[simp] theorem enter_sys (s : State) (o : BitVec 9) (c : Bool) (a : Word) : (enter o c a s).sys = s.sys := rfl
@[simp] theorem enter_stimuli (s : State) (o : BitVec 9) (c : Bool) (a : Word) : (enter o c a s).stimuli = s.stimuli := rfl
@[simp] theorem enter_reply (s : State) (o : BitVec 9) (c : Bool) (a : Word) : (enter o c a s).reply = s.reply := rfl
@[simp] theorem enter_free (s : State) (o : BitVec 9) (c : Bool) (a : Word) : (enter o c a s).free = s.free := rfl

/-! ### `sibComplete` -/

@[simp] theorem sibComplete_cfg (s : State) (c : BitVec 3) : (sibComplete c s).cfg = s.cfg := rfl
@[simp] theorem sibComplete_gpr (s : State) (c : BitVec 3) : (sibComplete c s).gpr = s.gpr := rfl
@[simp] theorem sibComplete_cr0 (s : State) (c : BitVec 3) : (sibComplete c s).cr0 = s.cr0 := rfl
@[simp] theorem sibComplete_xer (s : State) (c : BitVec 3) : (sibComplete c s).xer = s.xer := rfl
@[simp] theorem sibComplete_msr (s : State) (c : BitVec 3) : (sibComplete c s).msr = setBit (setField s.msr 9 c) (24 + c.toNat) true := rfl
@[simp] theorem sibComplete_iar (s : State) (c : BitVec 3) : (sibComplete c s).iar = s.iar := rfl
@[simp] theorem sibComplete_ir (s : State) (c : BitVec 3) : (sibComplete c s).ir = s.ir := rfl
@[simp] theorem sibComplete_lr (s : State) (c : BitVec 3) : (sibComplete c s).lr = s.lr := rfl
@[simp] theorem sibComplete_ctr (s : State) (c : BitVec 3) : (sibComplete c s).ctr = s.ctr := rfl
@[simp] theorem sibComplete_dec (s : State) (c : BitVec 3) : (sibComplete c s).dec = s.dec := rfl
@[simp] theorem sibComplete_srr0 (s : State) (c : BitVec 3) : (sibComplete c s).srr0 = s.srr0 := rfl
@[simp] theorem sibComplete_srr1 (s : State) (c : BitVec 3) : (sibComplete c s).srr1 = s.srr1 := rfl
@[simp] theorem sibComplete_edr (s : State) (c : BitVec 3) : (sibComplete c s).edr = s.edr := rfl
@[simp] theorem sibComplete_isr (s : State) (c : BitVec 3) : (sibComplete c s).isr = s.isr := rfl
@[simp] theorem sibComplete_sprg0 (s : State) (c : BitVec 3) : (sibComplete c s).sprg0 = s.sprg0 := rfl
@[simp] theorem sibComplete_dbcr (s : State) (c : BitVec 3) : (sibComplete c s).dbcr = s.dbcr := rfl
@[simp] theorem sibComplete_dacr (s : State) (c : BitVec 3) : (sibComplete c s).dacr = s.dacr := rfl
@[simp] theorem sibComplete_tsr (s : State) (c : BitVec 3) : (sibComplete c s).tsr = s.tsr := rfl
@[simp] theorem sibComplete_tcr (s : State) (c : BitVec 3) : (sibComplete c s).tcr = s.tcr := rfl
@[simp] theorem sibComplete_xsr (s : State) (c : BitVec 3) : (sibComplete c s).xsr = s.xsr := rfl
@[simp] theorem sibComplete_pins (s : State) (c : BitVec 3) : (sibComplete c s).pins = s.pins := rfl
@[simp] theorem sibComplete_out (s : State) (c : BitVec 3) : (sibComplete c s).out = s.out := rfl
@[simp] theorem sibComplete_resetting (s : State) (c : BitVec 3) : (sibComplete c s).resetting = s.resetting := rfl
@[simp] theorem sibComplete_pending (s : State) (c : BitVec 3) : (sibComplete c s).pending = s.pending := rfl
@[simp] theorem sibComplete_mem (s : State) (c : BitVec 3) : (sibComplete c s).mem = s.mem := rfl
@[simp] theorem sibComplete_sys (s : State) (c : BitVec 3) : (sibComplete c s).sys = s.sys := rfl
@[simp] theorem sibComplete_stimuli (s : State) (c : BitVec 3) : (sibComplete c s).stimuli = s.stimuli := rfl
@[simp] theorem sibComplete_reply (s : State) (c : BitVec 3) : (sibComplete c s).reply = s.reply := rfl
@[simp] theorem sibComplete_free (s : State) (c : BitVec 3) : (sibComplete c s).free = s.free := rfl

/-! ### `beginReset` -/

@[simp] theorem beginReset_cfg (s : State) (k : ResetKind) (b : Bool) : (beginReset k b s).cfg = s.cfg := by unfold beginReset; split <;> rfl
@[simp] theorem beginReset_gpr (s : State) (k : ResetKind) (b : Bool) : (beginReset k b s).gpr = s.gpr := by unfold beginReset; split <;> rfl
@[simp] theorem beginReset_cr0 (s : State) (k : ResetKind) (b : Bool) : (beginReset k b s).cr0 = s.cr0 := by unfold beginReset; split <;> rfl
@[simp] theorem beginReset_xer (s : State) (k : ResetKind) (b : Bool) : (beginReset k b s).xer = s.xer := by unfold beginReset; split <;> rfl
@[simp] theorem beginReset_msr (s : State) (k : ResetKind) (b : Bool) : (beginReset k b s).msr = s.msr := by unfold beginReset; split <;> rfl
@[simp] theorem beginReset_iar (s : State) (k : ResetKind) (b : Bool) : (beginReset k b s).iar = s.iar := by unfold beginReset; split <;> rfl
@[simp] theorem beginReset_ir (s : State) (k : ResetKind) (b : Bool) : (beginReset k b s).ir = s.ir := by unfold beginReset; split <;> rfl
@[simp] theorem beginReset_lr (s : State) (k : ResetKind) (b : Bool) : (beginReset k b s).lr = s.lr := by unfold beginReset; split <;> rfl
@[simp] theorem beginReset_ctr (s : State) (k : ResetKind) (b : Bool) : (beginReset k b s).ctr = s.ctr := by unfold beginReset; split <;> rfl
@[simp] theorem beginReset_dec (s : State) (k : ResetKind) (b : Bool) : (beginReset k b s).dec = s.dec := by unfold beginReset; split <;> rfl
@[simp] theorem beginReset_srr0 (s : State) (k : ResetKind) (b : Bool) : (beginReset k b s).srr0 = s.srr0 := by unfold beginReset; split <;> rfl
@[simp] theorem beginReset_srr1 (s : State) (k : ResetKind) (b : Bool) : (beginReset k b s).srr1 = s.srr1 := by unfold beginReset; split <;> rfl
@[simp] theorem beginReset_edr (s : State) (k : ResetKind) (b : Bool) : (beginReset k b s).edr = s.edr := by unfold beginReset; split <;> rfl
@[simp] theorem beginReset_sprg0 (s : State) (k : ResetKind) (b : Bool) : (beginReset k b s).sprg0 = s.sprg0 := by unfold beginReset; split <;> rfl
@[simp] theorem beginReset_dbcr (s : State) (k : ResetKind) (b : Bool) : (beginReset k b s).dbcr = s.dbcr := by unfold beginReset; split <;> rfl
@[simp] theorem beginReset_dacr (s : State) (k : ResetKind) (b : Bool) : (beginReset k b s).dacr = s.dacr := by unfold beginReset; split <;> rfl
@[simp] theorem beginReset_tsr (s : State) (k : ResetKind) (b : Bool) : (beginReset k b s).tsr = s.tsr := by unfold beginReset; split <;> rfl
@[simp] theorem beginReset_tcr (s : State) (k : ResetKind) (b : Bool) : (beginReset k b s).tcr = s.tcr := by unfold beginReset; split <;> rfl
@[simp] theorem beginReset_xsr (s : State) (k : ResetKind) (b : Bool) : (beginReset k b s).xsr = s.xsr := by unfold beginReset; split <;> rfl
@[simp] theorem beginReset_pins (s : State) (k : ResetKind) (b : Bool) : (beginReset k b s).pins = s.pins := by unfold beginReset; split <;> rfl
@[simp] theorem beginReset_out (s : State) (k : ResetKind) (b : Bool) : (beginReset k b s).out = s.out := by unfold beginReset; split <;> rfl
@[simp] theorem beginReset_pending (s : State) (k : ResetKind) (b : Bool) : (beginReset k b s).pending = s.pending := by unfold beginReset; split <;> rfl
@[simp] theorem beginReset_mem (s : State) (k : ResetKind) (b : Bool) : (beginReset k b s).mem = s.mem := by unfold beginReset; split <;> rfl
@[simp] theorem beginReset_sys (s : State) (k : ResetKind) (b : Bool) : (beginReset k b s).sys = s.sys := by unfold beginReset; split <;> rfl
@[simp] theorem beginReset_stimuli (s : State) (k : ResetKind) (b : Bool) : (beginReset k b s).stimuli = s.stimuli := by unfold beginReset; split <;> rfl
@[simp] theorem beginReset_reply (s : State) (k : ResetKind) (b : Bool) : (beginReset k b s).reply = s.reply := by unfold beginReset; split <;> rfl
@[simp] theorem beginReset_free (s : State) (k : ResetKind) (b : Bool) : (beginReset k b s).free = s.free := by unfold beginReset; split <;> rfl

/-! ### `sampleHresetReq` -/

@[simp] theorem sampleHresetReq_cfg (s : State) : (sampleHresetReq s).cfg = s.cfg := by unfold sampleHresetReq; split <;> simp
@[simp] theorem sampleHresetReq_gpr (s : State) : (sampleHresetReq s).gpr = s.gpr := by unfold sampleHresetReq; split <;> simp
@[simp] theorem sampleHresetReq_cr0 (s : State) : (sampleHresetReq s).cr0 = s.cr0 := by unfold sampleHresetReq; split <;> simp
@[simp] theorem sampleHresetReq_xer (s : State) : (sampleHresetReq s).xer = s.xer := by unfold sampleHresetReq; split <;> simp
@[simp] theorem sampleHresetReq_msr (s : State) : (sampleHresetReq s).msr = s.msr := by unfold sampleHresetReq; split <;> simp
@[simp] theorem sampleHresetReq_iar (s : State) : (sampleHresetReq s).iar = s.iar := by unfold sampleHresetReq; split <;> simp
@[simp] theorem sampleHresetReq_ir (s : State) : (sampleHresetReq s).ir = s.ir := by unfold sampleHresetReq; split <;> simp
@[simp] theorem sampleHresetReq_lr (s : State) : (sampleHresetReq s).lr = s.lr := by unfold sampleHresetReq; split <;> simp
@[simp] theorem sampleHresetReq_ctr (s : State) : (sampleHresetReq s).ctr = s.ctr := by unfold sampleHresetReq; split <;> simp
@[simp] theorem sampleHresetReq_dec (s : State) : (sampleHresetReq s).dec = s.dec := by unfold sampleHresetReq; split <;> simp
@[simp] theorem sampleHresetReq_srr0 (s : State) : (sampleHresetReq s).srr0 = s.srr0 := by unfold sampleHresetReq; split <;> simp
@[simp] theorem sampleHresetReq_srr1 (s : State) : (sampleHresetReq s).srr1 = s.srr1 := by unfold sampleHresetReq; split <;> simp
@[simp] theorem sampleHresetReq_edr (s : State) : (sampleHresetReq s).edr = s.edr := by unfold sampleHresetReq; split <;> simp
@[simp] theorem sampleHresetReq_sprg0 (s : State) : (sampleHresetReq s).sprg0 = s.sprg0 := by unfold sampleHresetReq; split <;> simp
@[simp] theorem sampleHresetReq_dbcr (s : State) : (sampleHresetReq s).dbcr = s.dbcr := by unfold sampleHresetReq; split <;> simp
@[simp] theorem sampleHresetReq_dacr (s : State) : (sampleHresetReq s).dacr = s.dacr := by unfold sampleHresetReq; split <;> simp
@[simp] theorem sampleHresetReq_tsr (s : State) : (sampleHresetReq s).tsr = s.tsr := by unfold sampleHresetReq; split <;> simp
@[simp] theorem sampleHresetReq_tcr (s : State) : (sampleHresetReq s).tcr = s.tcr := by unfold sampleHresetReq; split <;> simp
@[simp] theorem sampleHresetReq_xsr (s : State) : (sampleHresetReq s).xsr = s.xsr := by unfold sampleHresetReq; split <;> simp
@[simp] theorem sampleHresetReq_pins (s : State) : (sampleHresetReq s).pins = s.pins := by unfold sampleHresetReq; split <;> simp
@[simp] theorem sampleHresetReq_out (s : State) : (sampleHresetReq s).out = s.out := by unfold sampleHresetReq; split <;> simp
@[simp] theorem sampleHresetReq_pending (s : State) : (sampleHresetReq s).pending = s.pending := by unfold sampleHresetReq; split <;> simp
@[simp] theorem sampleHresetReq_mem (s : State) : (sampleHresetReq s).mem = s.mem := by unfold sampleHresetReq; split <;> simp
@[simp] theorem sampleHresetReq_sys (s : State) : (sampleHresetReq s).sys = s.sys := by unfold sampleHresetReq; split <;> simp
@[simp] theorem sampleHresetReq_stimuli (s : State) : (sampleHresetReq s).stimuli = s.stimuli := by unfold sampleHresetReq; split <;> simp
@[simp] theorem sampleHresetReq_reply (s : State) : (sampleHresetReq s).reply = s.reply := by unfold sampleHresetReq; split <;> simp
@[simp] theorem sampleHresetReq_free (s : State) : (sampleHresetReq s).free = s.free := by unfold sampleHresetReq; split <;> simp

/-! ### `endInstruction` -/

@[simp] theorem endInstruction_cfg (s : State) : (endInstruction s).cfg = s.cfg := rfl
@[simp] theorem endInstruction_gpr (s : State) : (endInstruction s).gpr = s.gpr := rfl
@[simp] theorem endInstruction_cr0 (s : State) : (endInstruction s).cr0 = s.cr0 := rfl
@[simp] theorem endInstruction_xer (s : State) : (endInstruction s).xer = s.xer := rfl
@[simp] theorem endInstruction_msr (s : State) : (endInstruction s).msr = s.msr := rfl
@[simp] theorem endInstruction_iar (s : State) : (endInstruction s).iar = s.iar := rfl
@[simp] theorem endInstruction_ir (s : State) : (endInstruction s).ir = s.ir := rfl
@[simp] theorem endInstruction_lr (s : State) : (endInstruction s).lr = s.lr := rfl
@[simp] theorem endInstruction_ctr (s : State) : (endInstruction s).ctr = s.ctr := rfl
@[simp] theorem endInstruction_dec (s : State) : (endInstruction s).dec = s.dec := rfl
@[simp] theorem endInstruction_srr0 (s : State) : (endInstruction s).srr0 = s.srr0 := rfl
@[simp] theorem endInstruction_srr1 (s : State) : (endInstruction s).srr1 = s.srr1 := rfl
@[simp] theorem endInstruction_edr (s : State) : (endInstruction s).edr = s.edr := rfl
@[simp] theorem endInstruction_isr (s : State) : (endInstruction s).isr = s.isr := rfl
@[simp] theorem endInstruction_sprg0 (s : State) : (endInstruction s).sprg0 = s.sprg0 := rfl
@[simp] theorem endInstruction_dbcr (s : State) : (endInstruction s).dbcr = s.dbcr := rfl
@[simp] theorem endInstruction_dacr (s : State) : (endInstruction s).dacr = s.dacr := rfl
@[simp] theorem endInstruction_tsr (s : State) : (endInstruction s).tsr = s.tsr := rfl
@[simp] theorem endInstruction_tcr (s : State) : (endInstruction s).tcr = s.tcr := rfl
@[simp] theorem endInstruction_xsr (s : State) : (endInstruction s).xsr = { s.xsr with rip := false, sip := false } := rfl
@[simp] theorem endInstruction_pins (s : State) : (endInstruction s).pins = s.pins := rfl
@[simp] theorem endInstruction_out (s : State) : (endInstruction s).out = s.out := rfl
@[simp] theorem endInstruction_resetting (s : State) : (endInstruction s).resetting = s.resetting := rfl
@[simp] theorem endInstruction_pending (s : State) : (endInstruction s).pending = s.pending := rfl
@[simp] theorem endInstruction_mem (s : State) : (endInstruction s).mem = s.mem := rfl
@[simp] theorem endInstruction_sys (s : State) : (endInstruction s).sys = s.sys := rfl
@[simp] theorem endInstruction_stimuli (s : State) : (endInstruction s).stimuli = s.stimuli := rfl
@[simp] theorem endInstruction_reply (s : State) : (endInstruction s).reply = s.reply := rfl
@[simp] theorem endInstruction_free (s : State) : (endInstruction s).free = s.free := rfl

/-! ### Registers -/

@[simp] theorem reg_def (s : State) (r : Gpr) : s.reg r = s.gpr.get r := rfl

theorem gprs_get_set (g : Gprs) (r q : Gpr) (v : Word) : (g.set r v).get q = if q = r then v else g.get q := by
  cases r <;> cases q <;> rfl

@[simp] theorem gprs_get_set_self (g : Gprs) (r : Gpr) (v : Word) : (g.set r v).get r = v := by cases r <;> rfl

end Sys2Proof.Machine
end

