-- ==== Sys2Proof/Laws/Ops.lean ====
section
/-! SUPPORT. What each shared operation can do: the frame of taking an exception, the requests, the ends of an instruction. -/

namespace Sys2Proof.Machine

/-! ### `haltAtVector` changes only status -/

@[simp] theorem haltAtVector_cfg (s : State) : (haltAtVector s).cfg = s.cfg := rfl
@[simp] theorem haltAtVector_gpr (s : State) : (haltAtVector s).gpr = s.gpr := rfl
@[simp] theorem haltAtVector_cr0 (s : State) : (haltAtVector s).cr0 = s.cr0 := rfl
@[simp] theorem haltAtVector_xer (s : State) : (haltAtVector s).xer = s.xer := rfl
@[simp] theorem haltAtVector_ir (s : State) : (haltAtVector s).ir = s.ir := rfl
@[simp] theorem haltAtVector_lr (s : State) : (haltAtVector s).lr = s.lr := rfl
@[simp] theorem haltAtVector_ctr (s : State) : (haltAtVector s).ctr = s.ctr := rfl
@[simp] theorem haltAtVector_dec (s : State) : (haltAtVector s).dec = s.dec := rfl
@[simp] theorem haltAtVector_sprg0 (s : State) : (haltAtVector s).sprg0 = s.sprg0 := rfl
@[simp] theorem haltAtVector_dbcr (s : State) : (haltAtVector s).dbcr = s.dbcr := rfl
@[simp] theorem haltAtVector_dacr (s : State) : (haltAtVector s).dacr = s.dacr := rfl
@[simp] theorem haltAtVector_tsr (s : State) : (haltAtVector s).tsr = s.tsr := rfl
@[simp] theorem haltAtVector_tcr (s : State) : (haltAtVector s).tcr = s.tcr := rfl
@[simp] theorem haltAtVector_pins (s : State) : (haltAtVector s).pins = s.pins := rfl
@[simp] theorem haltAtVector_resetting (s : State) : (haltAtVector s).resetting = s.resetting := rfl
@[simp] theorem haltAtVector_mem (s : State) : (haltAtVector s).mem = s.mem := rfl
@[simp] theorem haltAtVector_sys (s : State) : (haltAtVector s).sys = s.sys := rfl
@[simp] theorem haltAtVector_stimuli (s : State) : (haltAtVector s).stimuli = s.stimuli := rfl
@[simp] theorem haltAtVector_reply (s : State) : (haltAtVector s).reply = s.reply := rfl

/-! ### `machineCheck` changes only status -/

@[simp] theorem machineCheck_cfg (s : State) (a : Word) : (machineCheck a s).cfg = s.cfg := by unfold machineCheck; split <;> rfl
@[simp] theorem machineCheck_gpr (s : State) (a : Word) : (machineCheck a s).gpr = s.gpr := by unfold machineCheck; split <;> rfl
@[simp] theorem machineCheck_cr0 (s : State) (a : Word) : (machineCheck a s).cr0 = s.cr0 := by unfold machineCheck; split <;> rfl
@[simp] theorem machineCheck_xer (s : State) (a : Word) : (machineCheck a s).xer = s.xer := by unfold machineCheck; split <;> rfl
@[simp] theorem machineCheck_ir (s : State) (a : Word) : (machineCheck a s).ir = s.ir := by unfold machineCheck; split <;> rfl
@[simp] theorem machineCheck_lr (s : State) (a : Word) : (machineCheck a s).lr = s.lr := by unfold machineCheck; split <;> rfl
@[simp] theorem machineCheck_ctr (s : State) (a : Word) : (machineCheck a s).ctr = s.ctr := by unfold machineCheck; split <;> rfl
@[simp] theorem machineCheck_dec (s : State) (a : Word) : (machineCheck a s).dec = s.dec := by unfold machineCheck; split <;> rfl
@[simp] theorem machineCheck_sprg0 (s : State) (a : Word) : (machineCheck a s).sprg0 = s.sprg0 := by unfold machineCheck; split <;> rfl
@[simp] theorem machineCheck_dbcr (s : State) (a : Word) : (machineCheck a s).dbcr = s.dbcr := by unfold machineCheck; split <;> rfl
@[simp] theorem machineCheck_dacr (s : State) (a : Word) : (machineCheck a s).dacr = s.dacr := by unfold machineCheck; split <;> rfl
@[simp] theorem machineCheck_tsr (s : State) (a : Word) : (machineCheck a s).tsr = s.tsr := by unfold machineCheck; split <;> rfl
@[simp] theorem machineCheck_tcr (s : State) (a : Word) : (machineCheck a s).tcr = s.tcr := by unfold machineCheck; split <;> rfl
@[simp] theorem machineCheck_pins (s : State) (a : Word) : (machineCheck a s).pins = s.pins := by unfold machineCheck; split <;> rfl
@[simp] theorem machineCheck_resetting (s : State) (a : Word) : (machineCheck a s).resetting = s.resetting := by unfold machineCheck; split <;> rfl
@[simp] theorem machineCheck_mem (s : State) (a : Word) : (machineCheck a s).mem = s.mem := by unfold machineCheck; split <;> rfl
@[simp] theorem machineCheck_sys (s : State) (a : Word) : (machineCheck a s).sys = s.sys := by unfold machineCheck; split <;> rfl
@[simp] theorem machineCheck_stimuli (s : State) (a : Word) : (machineCheck a s).stimuli = s.stimuli := by unfold machineCheck; split <;> rfl
@[simp] theorem machineCheck_reply (s : State) (a : Word) : (machineCheck a s).reply = s.reply := by unfold machineCheck; split <;> rfl

/-! ### `reportImprecise` changes only status -/

@[simp] theorem reportImprecise_cfg (s : State) : (reportImprecise s).cfg = s.cfg := by unfold reportImprecise; simp
@[simp] theorem reportImprecise_gpr (s : State) : (reportImprecise s).gpr = s.gpr := by unfold reportImprecise; simp
@[simp] theorem reportImprecise_cr0 (s : State) : (reportImprecise s).cr0 = s.cr0 := by unfold reportImprecise; simp
@[simp] theorem reportImprecise_xer (s : State) : (reportImprecise s).xer = s.xer := by unfold reportImprecise; simp
@[simp] theorem reportImprecise_ir (s : State) : (reportImprecise s).ir = s.ir := by unfold reportImprecise; simp
@[simp] theorem reportImprecise_lr (s : State) : (reportImprecise s).lr = s.lr := by unfold reportImprecise; simp
@[simp] theorem reportImprecise_ctr (s : State) : (reportImprecise s).ctr = s.ctr := by unfold reportImprecise; simp
@[simp] theorem reportImprecise_dec (s : State) : (reportImprecise s).dec = s.dec := by unfold reportImprecise; simp
@[simp] theorem reportImprecise_sprg0 (s : State) : (reportImprecise s).sprg0 = s.sprg0 := by unfold reportImprecise; simp
@[simp] theorem reportImprecise_dbcr (s : State) : (reportImprecise s).dbcr = s.dbcr := by unfold reportImprecise; simp
@[simp] theorem reportImprecise_dacr (s : State) : (reportImprecise s).dacr = s.dacr := by unfold reportImprecise; simp
@[simp] theorem reportImprecise_tsr (s : State) : (reportImprecise s).tsr = s.tsr := by unfold reportImprecise; simp
@[simp] theorem reportImprecise_tcr (s : State) : (reportImprecise s).tcr = s.tcr := by unfold reportImprecise; simp
@[simp] theorem reportImprecise_pins (s : State) : (reportImprecise s).pins = s.pins := by unfold reportImprecise; simp
@[simp] theorem reportImprecise_resetting (s : State) : (reportImprecise s).resetting = s.resetting := by unfold reportImprecise; simp
@[simp] theorem reportImprecise_mem (s : State) : (reportImprecise s).mem = s.mem := by unfold reportImprecise; simp
@[simp] theorem reportImprecise_sys (s : State) : (reportImprecise s).sys = s.sys := by unfold reportImprecise; simp
@[simp] theorem reportImprecise_stimuli (s : State) : (reportImprecise s).stimuli = s.stimuli := by unfold reportImprecise; simp
@[simp] theorem reportImprecise_reply (s : State) : (reportImprecise s).reply = s.reply := by unfold reportImprecise; simp

/-! ### `exceptionRecord` changes only status -/

@[simp] theorem exceptionRecord_cfg (s : State) (e : Exception) : (e.record s).cfg = s.cfg := by cases e <;> rfl
@[simp] theorem exceptionRecord_gpr (s : State) (e : Exception) : (e.record s).gpr = s.gpr := by cases e <;> rfl
@[simp] theorem exceptionRecord_cr0 (s : State) (e : Exception) : (e.record s).cr0 = s.cr0 := by cases e <;> rfl
@[simp] theorem exceptionRecord_xer (s : State) (e : Exception) : (e.record s).xer = s.xer := by cases e <;> rfl
@[simp] theorem exceptionRecord_ir (s : State) (e : Exception) : (e.record s).ir = s.ir := by cases e <;> rfl
@[simp] theorem exceptionRecord_lr (s : State) (e : Exception) : (e.record s).lr = s.lr := by cases e <;> rfl
@[simp] theorem exceptionRecord_ctr (s : State) (e : Exception) : (e.record s).ctr = s.ctr := by cases e <;> rfl
@[simp] theorem exceptionRecord_dec (s : State) (e : Exception) : (e.record s).dec = s.dec := by cases e <;> rfl
@[simp] theorem exceptionRecord_sprg0 (s : State) (e : Exception) : (e.record s).sprg0 = s.sprg0 := by cases e <;> rfl
@[simp] theorem exceptionRecord_dbcr (s : State) (e : Exception) : (e.record s).dbcr = s.dbcr := by cases e <;> rfl
@[simp] theorem exceptionRecord_dacr (s : State) (e : Exception) : (e.record s).dacr = s.dacr := by cases e <;> rfl
@[simp] theorem exceptionRecord_tsr (s : State) (e : Exception) : (e.record s).tsr = s.tsr := by cases e <;> rfl
@[simp] theorem exceptionRecord_tcr (s : State) (e : Exception) : (e.record s).tcr = s.tcr := by cases e <;> rfl
@[simp] theorem exceptionRecord_pins (s : State) (e : Exception) : (e.record s).pins = s.pins := by cases e <;> rfl
@[simp] theorem exceptionRecord_resetting (s : State) (e : Exception) : (e.record s).resetting = s.resetting := by cases e <;> rfl
@[simp] theorem exceptionRecord_mem (s : State) (e : Exception) : (e.record s).mem = s.mem := by cases e <;> rfl
@[simp] theorem exceptionRecord_sys (s : State) (e : Exception) : (e.record s).sys = s.sys := by cases e <;> rfl
@[simp] theorem exceptionRecord_stimuli (s : State) (e : Exception) : (e.record s).stimuli = s.stimuli := by cases e <;> rfl
@[simp] theorem exceptionRecord_reply (s : State) (e : Exception) : (e.record s).reply = s.reply := by cases e <;> rfl

/-! ### `dispatch` changes only status -/

@[simp] theorem dispatch_cfg (s : State) (e : Exception) : (dispatch e s).cfg = s.cfg := by unfold dispatch; split_ifs <;> simp
@[simp] theorem dispatch_gpr (s : State) (e : Exception) : (dispatch e s).gpr = s.gpr := by unfold dispatch; split_ifs <;> simp
@[simp] theorem dispatch_cr0 (s : State) (e : Exception) : (dispatch e s).cr0 = s.cr0 := by unfold dispatch; split_ifs <;> simp
@[simp] theorem dispatch_xer (s : State) (e : Exception) : (dispatch e s).xer = s.xer := by unfold dispatch; split_ifs <;> simp
@[simp] theorem dispatch_ir (s : State) (e : Exception) : (dispatch e s).ir = s.ir := by unfold dispatch; split_ifs <;> simp
@[simp] theorem dispatch_lr (s : State) (e : Exception) : (dispatch e s).lr = s.lr := by unfold dispatch; split_ifs <;> simp
@[simp] theorem dispatch_ctr (s : State) (e : Exception) : (dispatch e s).ctr = s.ctr := by unfold dispatch; split_ifs <;> simp
@[simp] theorem dispatch_dec (s : State) (e : Exception) : (dispatch e s).dec = s.dec := by unfold dispatch; split_ifs <;> simp
@[simp] theorem dispatch_sprg0 (s : State) (e : Exception) : (dispatch e s).sprg0 = s.sprg0 := by unfold dispatch; split_ifs <;> simp
@[simp] theorem dispatch_dbcr (s : State) (e : Exception) : (dispatch e s).dbcr = s.dbcr := by unfold dispatch; split_ifs <;> simp
@[simp] theorem dispatch_dacr (s : State) (e : Exception) : (dispatch e s).dacr = s.dacr := by unfold dispatch; split_ifs <;> simp
@[simp] theorem dispatch_tsr (s : State) (e : Exception) : (dispatch e s).tsr = s.tsr := by unfold dispatch; split_ifs <;> simp
@[simp] theorem dispatch_tcr (s : State) (e : Exception) : (dispatch e s).tcr = s.tcr := by unfold dispatch; split_ifs <;> simp
@[simp] theorem dispatch_pins (s : State) (e : Exception) : (dispatch e s).pins = s.pins := by unfold dispatch; split_ifs <;> simp
@[simp] theorem dispatch_resetting (s : State) (e : Exception) : (dispatch e s).resetting = s.resetting := by unfold dispatch; split_ifs <;> simp
@[simp] theorem dispatch_mem (s : State) (e : Exception) : (dispatch e s).mem = s.mem := by unfold dispatch; split_ifs <;> simp
@[simp] theorem dispatch_sys (s : State) (e : Exception) : (dispatch e s).sys = s.sys := by unfold dispatch; split_ifs <;> simp
@[simp] theorem dispatch_stimuli (s : State) (e : Exception) : (dispatch e s).stimuli = s.stimuli := by unfold dispatch; split_ifs <;> simp
@[simp] theorem dispatch_reply (s : State) (e : Exception) : (dispatch e s).reply = s.reply := by unfold dispatch; split_ifs <;> simp

/-! ### `raise` changes only status -/

@[simp] theorem raise_cfg (s : State) (e : Exception) : (raise e s).cfg = s.cfg := by unfold raise; split_ifs <;> simp
@[simp] theorem raise_gpr (s : State) (e : Exception) : (raise e s).gpr = s.gpr := by unfold raise; split_ifs <;> simp
@[simp] theorem raise_cr0 (s : State) (e : Exception) : (raise e s).cr0 = s.cr0 := by unfold raise; split_ifs <;> simp
@[simp] theorem raise_xer (s : State) (e : Exception) : (raise e s).xer = s.xer := by unfold raise; split_ifs <;> simp
@[simp] theorem raise_ir (s : State) (e : Exception) : (raise e s).ir = s.ir := by unfold raise; split_ifs <;> simp
@[simp] theorem raise_lr (s : State) (e : Exception) : (raise e s).lr = s.lr := by unfold raise; split_ifs <;> simp
@[simp] theorem raise_ctr (s : State) (e : Exception) : (raise e s).ctr = s.ctr := by unfold raise; split_ifs <;> simp
@[simp] theorem raise_dec (s : State) (e : Exception) : (raise e s).dec = s.dec := by unfold raise; split_ifs <;> simp
@[simp] theorem raise_sprg0 (s : State) (e : Exception) : (raise e s).sprg0 = s.sprg0 := by unfold raise; split_ifs <;> simp
@[simp] theorem raise_dbcr (s : State) (e : Exception) : (raise e s).dbcr = s.dbcr := by unfold raise; split_ifs <;> simp
@[simp] theorem raise_dacr (s : State) (e : Exception) : (raise e s).dacr = s.dacr := by unfold raise; split_ifs <;> simp
@[simp] theorem raise_tsr (s : State) (e : Exception) : (raise e s).tsr = s.tsr := by unfold raise; split_ifs <;> simp
@[simp] theorem raise_tcr (s : State) (e : Exception) : (raise e s).tcr = s.tcr := by unfold raise; split_ifs <;> simp
@[simp] theorem raise_pins (s : State) (e : Exception) : (raise e s).pins = s.pins := by unfold raise; split_ifs <;> simp
@[simp] theorem raise_resetting (s : State) (e : Exception) : (raise e s).resetting = s.resetting := by unfold raise; split_ifs <;> simp
@[simp] theorem raise_mem (s : State) (e : Exception) : (raise e s).mem = s.mem := by unfold raise; split_ifs <;> simp
@[simp] theorem raise_sys (s : State) (e : Exception) : (raise e s).sys = s.sys := by unfold raise; split_ifs <;> simp
@[simp] theorem raise_stimuli (s : State) (e : Exception) : (raise e s).stimuli = s.stimuli := by unfold raise; split_ifs <;> simp
@[simp] theorem raise_reply (s : State) (e : Exception) : (raise e s).reply = s.reply := by unfold raise; split_ifs <;> simp

/-! ### `illegal` changes only status -/

@[simp] theorem illegal_cfg (s : State) : (illegal s).cfg = s.cfg := by unfold illegal; simp
@[simp] theorem illegal_gpr (s : State) : (illegal s).gpr = s.gpr := by unfold illegal; simp
@[simp] theorem illegal_cr0 (s : State) : (illegal s).cr0 = s.cr0 := by unfold illegal; simp
@[simp] theorem illegal_xer (s : State) : (illegal s).xer = s.xer := by unfold illegal; simp
@[simp] theorem illegal_ir (s : State) : (illegal s).ir = s.ir := by unfold illegal; simp
@[simp] theorem illegal_lr (s : State) : (illegal s).lr = s.lr := by unfold illegal; simp
@[simp] theorem illegal_ctr (s : State) : (illegal s).ctr = s.ctr := by unfold illegal; simp
@[simp] theorem illegal_dec (s : State) : (illegal s).dec = s.dec := by unfold illegal; simp
@[simp] theorem illegal_sprg0 (s : State) : (illegal s).sprg0 = s.sprg0 := by unfold illegal; simp
@[simp] theorem illegal_dbcr (s : State) : (illegal s).dbcr = s.dbcr := by unfold illegal; simp
@[simp] theorem illegal_dacr (s : State) : (illegal s).dacr = s.dacr := by unfold illegal; simp
@[simp] theorem illegal_tsr (s : State) : (illegal s).tsr = s.tsr := by unfold illegal; simp
@[simp] theorem illegal_tcr (s : State) : (illegal s).tcr = s.tcr := by unfold illegal; simp
@[simp] theorem illegal_pins (s : State) : (illegal s).pins = s.pins := by unfold illegal; simp
@[simp] theorem illegal_resetting (s : State) : (illegal s).resetting = s.resetting := by unfold illegal; simp
@[simp] theorem illegal_mem (s : State) : (illegal s).mem = s.mem := by unfold illegal; simp
@[simp] theorem illegal_sys (s : State) : (illegal s).sys = s.sys := by unfold illegal; simp
@[simp] theorem illegal_stimuli (s : State) : (illegal s).stimuli = s.stimuli := by unfold illegal; simp
@[simp] theorem illegal_reply (s : State) : (illegal s).reply = s.reply := by unfold illegal; simp

/-! ### `dataMachineCheck` changes only status -/

@[simp] theorem dataMachineCheck_cfg (s : State) (st : Bool) (a : Word) : (dataMachineCheck st a s).cfg = s.cfg := by unfold dataMachineCheck; split_ifs <;> simp
@[simp] theorem dataMachineCheck_gpr (s : State) (st : Bool) (a : Word) : (dataMachineCheck st a s).gpr = s.gpr := by unfold dataMachineCheck; split_ifs <;> simp
@[simp] theorem dataMachineCheck_cr0 (s : State) (st : Bool) (a : Word) : (dataMachineCheck st a s).cr0 = s.cr0 := by unfold dataMachineCheck; split_ifs <;> simp
@[simp] theorem dataMachineCheck_xer (s : State) (st : Bool) (a : Word) : (dataMachineCheck st a s).xer = s.xer := by unfold dataMachineCheck; split_ifs <;> simp
@[simp] theorem dataMachineCheck_ir (s : State) (st : Bool) (a : Word) : (dataMachineCheck st a s).ir = s.ir := by unfold dataMachineCheck; split_ifs <;> simp
@[simp] theorem dataMachineCheck_lr (s : State) (st : Bool) (a : Word) : (dataMachineCheck st a s).lr = s.lr := by unfold dataMachineCheck; split_ifs <;> simp
@[simp] theorem dataMachineCheck_ctr (s : State) (st : Bool) (a : Word) : (dataMachineCheck st a s).ctr = s.ctr := by unfold dataMachineCheck; split_ifs <;> simp
@[simp] theorem dataMachineCheck_dec (s : State) (st : Bool) (a : Word) : (dataMachineCheck st a s).dec = s.dec := by unfold dataMachineCheck; split_ifs <;> simp
@[simp] theorem dataMachineCheck_sprg0 (s : State) (st : Bool) (a : Word) : (dataMachineCheck st a s).sprg0 = s.sprg0 := by unfold dataMachineCheck; split_ifs <;> simp
@[simp] theorem dataMachineCheck_dbcr (s : State) (st : Bool) (a : Word) : (dataMachineCheck st a s).dbcr = s.dbcr := by unfold dataMachineCheck; split_ifs <;> simp
@[simp] theorem dataMachineCheck_dacr (s : State) (st : Bool) (a : Word) : (dataMachineCheck st a s).dacr = s.dacr := by unfold dataMachineCheck; split_ifs <;> simp
@[simp] theorem dataMachineCheck_tsr (s : State) (st : Bool) (a : Word) : (dataMachineCheck st a s).tsr = s.tsr := by unfold dataMachineCheck; split_ifs <;> simp
@[simp] theorem dataMachineCheck_tcr (s : State) (st : Bool) (a : Word) : (dataMachineCheck st a s).tcr = s.tcr := by unfold dataMachineCheck; split_ifs <;> simp
@[simp] theorem dataMachineCheck_pins (s : State) (st : Bool) (a : Word) : (dataMachineCheck st a s).pins = s.pins := by unfold dataMachineCheck; split_ifs <;> simp
@[simp] theorem dataMachineCheck_resetting (s : State) (st : Bool) (a : Word) : (dataMachineCheck st a s).resetting = s.resetting := by unfold dataMachineCheck; split_ifs <;> simp
@[simp] theorem dataMachineCheck_mem (s : State) (st : Bool) (a : Word) : (dataMachineCheck st a s).mem = s.mem := by unfold dataMachineCheck; split_ifs <;> simp
@[simp] theorem dataMachineCheck_sys (s : State) (st : Bool) (a : Word) : (dataMachineCheck st a s).sys = s.sys := by unfold dataMachineCheck; split_ifs <;> simp
@[simp] theorem dataMachineCheck_stimuli (s : State) (st : Bool) (a : Word) : (dataMachineCheck st a s).stimuli = s.stimuli := by unfold dataMachineCheck; split_ifs <;> simp
@[simp] theorem dataMachineCheck_reply (s : State) (st : Bool) (a : Word) : (dataMachineCheck st a s).reply = s.reply := by unfold dataMachineCheck; split_ifs <;> simp

/-! ### `fetchMachineCheck` changes only status -/

@[simp] theorem fetchMachineCheck_cfg (s : State) : (fetchMachineCheck s).cfg = s.cfg := by unfold fetchMachineCheck; split_ifs <;> simp
@[simp] theorem fetchMachineCheck_gpr (s : State) : (fetchMachineCheck s).gpr = s.gpr := by unfold fetchMachineCheck; split_ifs <;> simp
@[simp] theorem fetchMachineCheck_cr0 (s : State) : (fetchMachineCheck s).cr0 = s.cr0 := by unfold fetchMachineCheck; split_ifs <;> simp
@[simp] theorem fetchMachineCheck_xer (s : State) : (fetchMachineCheck s).xer = s.xer := by unfold fetchMachineCheck; split_ifs <;> simp
@[simp] theorem fetchMachineCheck_ir (s : State) : (fetchMachineCheck s).ir = s.ir := by unfold fetchMachineCheck; split_ifs <;> simp
@[simp] theorem fetchMachineCheck_lr (s : State) : (fetchMachineCheck s).lr = s.lr := by unfold fetchMachineCheck; split_ifs <;> simp
@[simp] theorem fetchMachineCheck_ctr (s : State) : (fetchMachineCheck s).ctr = s.ctr := by unfold fetchMachineCheck; split_ifs <;> simp
@[simp] theorem fetchMachineCheck_dec (s : State) : (fetchMachineCheck s).dec = s.dec := by unfold fetchMachineCheck; split_ifs <;> simp
@[simp] theorem fetchMachineCheck_sprg0 (s : State) : (fetchMachineCheck s).sprg0 = s.sprg0 := by unfold fetchMachineCheck; split_ifs <;> simp
@[simp] theorem fetchMachineCheck_dbcr (s : State) : (fetchMachineCheck s).dbcr = s.dbcr := by unfold fetchMachineCheck; split_ifs <;> simp
@[simp] theorem fetchMachineCheck_dacr (s : State) : (fetchMachineCheck s).dacr = s.dacr := by unfold fetchMachineCheck; split_ifs <;> simp
@[simp] theorem fetchMachineCheck_tsr (s : State) : (fetchMachineCheck s).tsr = s.tsr := by unfold fetchMachineCheck; split_ifs <;> simp
@[simp] theorem fetchMachineCheck_tcr (s : State) : (fetchMachineCheck s).tcr = s.tcr := by unfold fetchMachineCheck; split_ifs <;> simp
@[simp] theorem fetchMachineCheck_pins (s : State) : (fetchMachineCheck s).pins = s.pins := by unfold fetchMachineCheck; split_ifs <;> simp
@[simp] theorem fetchMachineCheck_resetting (s : State) : (fetchMachineCheck s).resetting = s.resetting := by unfold fetchMachineCheck; split_ifs <;> simp
@[simp] theorem fetchMachineCheck_mem (s : State) : (fetchMachineCheck s).mem = s.mem := by unfold fetchMachineCheck; split_ifs <;> simp
@[simp] theorem fetchMachineCheck_sys (s : State) : (fetchMachineCheck s).sys = s.sys := by unfold fetchMachineCheck; split_ifs <;> simp
@[simp] theorem fetchMachineCheck_stimuli (s : State) : (fetchMachineCheck s).stimuli = s.stimuli := by unfold fetchMachineCheck; split_ifs <;> simp
@[simp] theorem fetchMachineCheck_reply (s : State) : (fetchMachineCheck s).reply = s.reply := by unfold fetchMachineCheck; split_ifs <;> simp

/-! ### `takeAsync` changes only status -/

@[simp] theorem takeAsync_cfg (s : State) (a : Async) : (takeAsync a s).cfg = s.cfg := by unfold takeAsync; split_ifs <;> simp
@[simp] theorem takeAsync_gpr (s : State) (a : Async) : (takeAsync a s).gpr = s.gpr := by unfold takeAsync; split_ifs <;> simp
@[simp] theorem takeAsync_cr0 (s : State) (a : Async) : (takeAsync a s).cr0 = s.cr0 := by unfold takeAsync; split_ifs <;> simp
@[simp] theorem takeAsync_xer (s : State) (a : Async) : (takeAsync a s).xer = s.xer := by unfold takeAsync; split_ifs <;> simp
@[simp] theorem takeAsync_ir (s : State) (a : Async) : (takeAsync a s).ir = s.ir := by unfold takeAsync; split_ifs <;> simp
@[simp] theorem takeAsync_lr (s : State) (a : Async) : (takeAsync a s).lr = s.lr := by unfold takeAsync; split_ifs <;> simp
@[simp] theorem takeAsync_ctr (s : State) (a : Async) : (takeAsync a s).ctr = s.ctr := by unfold takeAsync; split_ifs <;> simp
@[simp] theorem takeAsync_dec (s : State) (a : Async) : (takeAsync a s).dec = s.dec := by unfold takeAsync; split_ifs <;> simp
@[simp] theorem takeAsync_sprg0 (s : State) (a : Async) : (takeAsync a s).sprg0 = s.sprg0 := by unfold takeAsync; split_ifs <;> simp
@[simp] theorem takeAsync_dbcr (s : State) (a : Async) : (takeAsync a s).dbcr = s.dbcr := by unfold takeAsync; split_ifs <;> simp
@[simp] theorem takeAsync_dacr (s : State) (a : Async) : (takeAsync a s).dacr = s.dacr := by unfold takeAsync; split_ifs <;> simp
@[simp] theorem takeAsync_tsr (s : State) (a : Async) : (takeAsync a s).tsr = s.tsr := by unfold takeAsync; split_ifs <;> simp
@[simp] theorem takeAsync_tcr (s : State) (a : Async) : (takeAsync a s).tcr = s.tcr := by unfold takeAsync; split_ifs <;> simp
@[simp] theorem takeAsync_pins (s : State) (a : Async) : (takeAsync a s).pins = s.pins := by unfold takeAsync; split_ifs <;> simp
@[simp] theorem takeAsync_resetting (s : State) (a : Async) : (takeAsync a s).resetting = s.resetting := by unfold takeAsync; split_ifs <;> simp
@[simp] theorem takeAsync_mem (s : State) (a : Async) : (takeAsync a s).mem = s.mem := by unfold takeAsync; split_ifs <;> simp
@[simp] theorem takeAsync_sys (s : State) (a : Async) : (takeAsync a s).sys = s.sys := by unfold takeAsync; split_ifs <;> simp
@[simp] theorem takeAsync_stimuli (s : State) (a : Async) : (takeAsync a s).stimuli = s.stimuli := by unfold takeAsync; split_ifs <;> simp
@[simp] theorem takeAsync_reply (s : State) (a : Async) : (takeAsync a s).reply = s.reply := by unfold takeAsync; split_ifs <;> simp

/-! ### `debugHalt` changes only status -/

@[simp] theorem debugHalt_cfg (s : State) (e : DebugEvent) : (debugHalt e s).cfg = s.cfg := by cases e <;> rfl
@[simp] theorem debugHalt_gpr (s : State) (e : DebugEvent) : (debugHalt e s).gpr = s.gpr := by cases e <;> rfl
@[simp] theorem debugHalt_cr0 (s : State) (e : DebugEvent) : (debugHalt e s).cr0 = s.cr0 := by cases e <;> rfl
@[simp] theorem debugHalt_xer (s : State) (e : DebugEvent) : (debugHalt e s).xer = s.xer := by cases e <;> rfl
@[simp] theorem debugHalt_ir (s : State) (e : DebugEvent) : (debugHalt e s).ir = s.ir := by cases e <;> rfl
@[simp] theorem debugHalt_lr (s : State) (e : DebugEvent) : (debugHalt e s).lr = s.lr := by cases e <;> rfl
@[simp] theorem debugHalt_ctr (s : State) (e : DebugEvent) : (debugHalt e s).ctr = s.ctr := by cases e <;> rfl
@[simp] theorem debugHalt_dec (s : State) (e : DebugEvent) : (debugHalt e s).dec = s.dec := by cases e <;> rfl
@[simp] theorem debugHalt_sprg0 (s : State) (e : DebugEvent) : (debugHalt e s).sprg0 = s.sprg0 := by cases e <;> rfl
@[simp] theorem debugHalt_dbcr (s : State) (e : DebugEvent) : (debugHalt e s).dbcr = s.dbcr := by cases e <;> rfl
@[simp] theorem debugHalt_dacr (s : State) (e : DebugEvent) : (debugHalt e s).dacr = s.dacr := by cases e <;> rfl
@[simp] theorem debugHalt_tsr (s : State) (e : DebugEvent) : (debugHalt e s).tsr = s.tsr := by cases e <;> rfl
@[simp] theorem debugHalt_tcr (s : State) (e : DebugEvent) : (debugHalt e s).tcr = s.tcr := by cases e <;> rfl
@[simp] theorem debugHalt_pins (s : State) (e : DebugEvent) : (debugHalt e s).pins = s.pins := by cases e <;> rfl
@[simp] theorem debugHalt_resetting (s : State) (e : DebugEvent) : (debugHalt e s).resetting = s.resetting := by cases e <;> rfl
@[simp] theorem debugHalt_mem (s : State) (e : DebugEvent) : (debugHalt e s).mem = s.mem := by cases e <;> rfl
@[simp] theorem debugHalt_sys (s : State) (e : DebugEvent) : (debugHalt e s).sys = s.sys := by cases e <;> rfl
@[simp] theorem debugHalt_stimuli (s : State) (e : DebugEvent) : (debugHalt e s).stimuli = s.stimuli := by cases e <;> rfl
@[simp] theorem debugHalt_reply (s : State) (e : DebugEvent) : (debugHalt e s).reply = s.reply := by cases e <;> rfl

/-! ### Where nothing is pending -/

theorem raise_precise (s : State) (e : Exception) (h : s.pending = []) : raise e s = dispatch e s := by
  simp [raise, h]

theorem dataMachineCheck_precise (s : State) (st : Bool) (a : Word) (h : s.pending = []) :
    dataMachineCheck st a s =
      machineCheck s.iar (recordMachineCheck false (if st then 2 else 1) { s with edr := a }) := by
  simp [dataMachineCheck, h]

theorem takeAsync_precise (s : State) (a : Async) (h : s.pending = []) :
    takeAsync a s = enter a.offset false s.iar s := by
  simp [takeAsync, h]

theorem synchronised_precise (s t : State) (h : s.pending = []) : synchronised s t = t := by
  simp [synchronised, h]

theorem validForm_valid (ok : Bool) (s t : State) (h : ok = true) : validForm ok s t = t := by simp [validForm, h]

theorem validForm_invalid (ok : Bool) (s t : State) (h : ok = false) : validForm ok s t = illegal s := by
  simp [validForm, h]

/-! ### Requests -/

/-- A request that the memory subsystem accepts, that no compare stops and at which nothing is reported, is granted. -/
theorem request_granted (q : Request) (a : Word) (s : State) (hd : s.xsr.rip = true ∨ dacMatch q.dac a s = false)
    (hr : s.reportsNow = false) : request q a .ok s = .done .plain s := by
  unfold request
  have : (!s.xsr.rip && dacMatch q.dac a s) = false := by rcases hd with h | h <;> simp [h]
  simp [this, hr]

/-- A granted load reads memory and changes nothing. -/
theorem memRead_granted (w : Width) (a : Word) (s : State) (h : s.sys.dataReply false a w.bytes = .ok)
    (hd : s.xsr.rip = true ∨ dacMatch false a s = false) (hr : s.reportsNow = false) :
    memRead w a s = .done (readMem w s.mem a) s := by
  unfold memRead
  rw [h, request_granted .load a s hd hr]

/-- A granted store writes memory and changes nothing else. -/
theorem memWrite_granted (w : Width) (a : Word) (v : Dword) (s : State) (h : s.sys.dataReply true a w.bytes = .ok)
    (hd : s.xsr.rip = true ∨ dacMatch true a s = false) (hr : s.reportsNow = false) :
    memWrite w a v s = .done () { s with mem := writeMem w s.mem a v } := by
  unfold memWrite
  rw [h, request_granted .store a s hd hr]

theorem dataError_done_frame (q : Request) (a : Word) (g : Grant) (s t : State) (h : dataError q a s = .done g t) :
    t = { s with pending := t.pending } := by
  unfold dataError at h
  split at h
  · cases h; rfl
  · cases h

theorem writeBackError_done_frame (line : Word) (g : Grant) (s t : State) (h : writeBackError line s = .done g t) :
    g = .plain ∧ t = { s with pending := t.pending } := by
  unfold writeBackError at h
  split at h
  next heq => cases h; exact ⟨rfl, dataError_done_frame _ _ _ _ _ heq⟩
  · cases h

theorem sibAccess_done_frame (q : Request) (a : Word) (c : BitVec 3) (g : Grant) (s t : State)
    (h : sibAccess q a c s = .done g t) : t = { s with msr := t.msr, pending := t.pending } := by
  unfold sibAccess at h
  split_ifs at h
  · cases h; rfl
  · cases h; rfl
  · have hf := dataError_done_frame q a g _ t h
    rw [hf]; rfl

/-- A request that is granted changes at most the MSR (a SIB access) and the pending errors (a deferred one). -/
theorem request_done_frame (q : Request) (a : Word) (r : DataReply) (g : Grant) (s t : State)
    (h : request q a r s = .done g t) : t = { s with msr := t.msr, pending := t.pending } := by
  unfold request at h
  split at h
  · cases h
  · cases r <;> simp only at h
    · split at h <;> cases h
      rfl
    · cases h
    · cases h
    · split at h
      · cases h
      · have hf := dataError_done_frame q a g s t h
        rw [hf]
    · split at h
      · cases h
      · have hf := (writeBackError_done_frame _ g s t h).2
        rw [hf]
    · split at h
      · cases h
      · exact sibAccess_done_frame q a _ g s t h

/-- A request that a data compare stops halts the core. -/
theorem request_compare (q : Request) (a : Word) (r : DataReply) (s : State) (hr : s.xsr.rip = false)
    (h : dacMatch q.dac a s = true) : request q a r s = .taken (debugHalt (if q.dac then .wdac else .rdac) s) := by
  simp [request, hr, h]

/-! ### Cache operations -/

/-- A permission is denied by a data storage exception alone. -/
theorem storageOnly_eq (r : DataReply) : r.storageOnly = if r = .dsi then .dsi else .ok := by cases r <;> rfl

/-- Without a data cache a cache operation has the permission alone. -/
theorem cacheReply_without_cache (store : Bool) (own : CacheReplies → DataReply) (ea : Word) (s : State)
    (h : s.cfg.hasDcache = false) :
    cacheReply store own ea s = if permission store ea s = .dsi then .dsi else .ok := by
  simp [cacheReply, orCached, h, storageOnly_eq]

/-- With a data cache a denied permission comes before the cache's own answer. -/
theorem cacheReply_with_cache (store : Bool) (own : CacheReplies → DataReply) (ea : Word) (s : State) (r : Region)
    (h : s.cfg.hasDcache = true) (hr : s.sys.regionAt ea = some r) :
    cacheReply store own ea s = if permission store ea s = .dsi then .dsi else own r.cacheOps := by
  simp only [cacheReply, orCached, h, hr, storageOnly_eq, DataReply.worse]
  cases own r.cacheOps <;> by_cases hp : permission store ea s = .dsi <;> simp [hp, DataReply.rank]
  all_goals split_ifs <;> simp_all

/-- A granted cache operation only advances. -/
theorem cacheOp_granted (q : Request) (ea : Word) (s : State) (hd : s.xsr.rip = true ∨ dacMatch q.dac ea s = false)
    (hr : s.reportsNow = false) : cacheOp q .ok ea s = s.advance := by
  unfold cacheOp
  rw [request_granted q ea s hd hr]

/-! ### Resets -/

theorem sampleHresetReq_inactive (s : State) (h : s.pins.hresetReq = false) : sampleHresetReq s = s := by
  simp [sampleHresetReq, h]

/-- A requested reset changes at most ISR[SRSMS] and the reset in progress. -/
theorem beginReset_frame (k : ResetKind) (b : Bool) (s : State) :
    beginReset k b s = { s with isr := (beginReset k b s).isr, resetting := (beginReset k b s).resetting } := by
  unfold beginReset; split <;> rfl

/-- A core that no reset holds runs an instruction. -/
theorem coreStep_running (s : State) (hr : s.resetting = none) (hp : s.pins.hresetReq = false) :
    coreStep s = instructionStep (sampleHaltReq s) := by
  simp [coreStep, sampleHresetReq_inactive s hp, hr]

/-! ### The end of an instruction -/

/-- An instruction that does not branch ends with the IAR advanced, unless it is rammed. -/
theorem advance_eq (s : State) : s.advance = { s with iar := if s.xsr.rip then s.iar else s.iar + 4 } := by
  unfold State.advance; split <;> rfl

/-- A branch writes the LR where it links, and the IAR. -/
theorem branch_eq (taken lk : Bool) (target : Word) (s : State) :
    branch taken lk target s =
      { s with
        lr := if lk then s.iar + 4 else s.lr
        iar := if taken then wordAlign target else if s.xsr.rip then s.iar else s.iar + 4 } := by
  unfold branch State.jump
  cases lk <;> cases taken <;> simp [advance_eq]

end Sys2Proof.Machine
end

