-- ==== Sys2Proof/Laws/PerInstr.lean ====
section
/-! SUPPORT. Facts about the syntax of each instruction, one lemma per constructor. -/

namespace Sys2Proof.Laws

/-- A valid form of the PPE 42 is a valid form of the PPE 42X, the strict superset (00_scope.md R3; 30_encoding.md R171). -/
def VariantSuperset.Statement (i : Instr) : Prop := i.wellFormed .ppe42 = true → i.wellFormed .ppe42x = true

theorem VariantSuperset.add (rt : Gpr) (ra : Gpr) (rb : Gpr) (oe : Bool) (rc : Bool) :
    VariantSuperset.Statement (.add rt ra rb oe rc) := id

theorem VariantSuperset.addc (rt : Gpr) (ra : Gpr) (rb : Gpr) (oe : Bool) (rc : Bool) :
    VariantSuperset.Statement (.addc rt ra rb oe rc) := id

theorem VariantSuperset.adde (rt : Gpr) (ra : Gpr) (rb : Gpr) (oe : Bool) (rc : Bool) :
    VariantSuperset.Statement (.adde rt ra rb oe rc) := id

theorem VariantSuperset.addi (rt : Gpr) (ra : Gpr) (si : BitVec 16) :
    VariantSuperset.Statement (.addi rt ra si) := id

theorem VariantSuperset.addic (rt : Gpr) (ra : Gpr) (si : BitVec 16) :
    VariantSuperset.Statement (.addic rt ra si) := id

theorem VariantSuperset.addicDot (rt : Gpr) (ra : Gpr) (si : BitVec 16) :
    VariantSuperset.Statement (.addicDot rt ra si) := id

theorem VariantSuperset.addis (rt : Gpr) (ra : Gpr) (si : BitVec 16) :
    VariantSuperset.Statement (.addis rt ra si) := id

theorem VariantSuperset.addme (rt : Gpr) (ra : Gpr) (oe : Bool) (rc : Bool) :
    VariantSuperset.Statement (.addme rt ra oe rc) := id

theorem VariantSuperset.addze (rt : Gpr) (ra : Gpr) (oe : Bool) (rc : Bool) :
    VariantSuperset.Statement (.addze rt ra oe rc) := id

theorem VariantSuperset.subf (rt : Gpr) (ra : Gpr) (rb : Gpr) (oe : Bool) (rc : Bool) :
    VariantSuperset.Statement (.subf rt ra rb oe rc) := id

theorem VariantSuperset.subfc (rt : Gpr) (ra : Gpr) (rb : Gpr) (oe : Bool) (rc : Bool) :
    VariantSuperset.Statement (.subfc rt ra rb oe rc) := id

theorem VariantSuperset.subfe (rt : Gpr) (ra : Gpr) (rb : Gpr) (oe : Bool) (rc : Bool) :
    VariantSuperset.Statement (.subfe rt ra rb oe rc) := id

theorem VariantSuperset.subfic (rt : Gpr) (ra : Gpr) (si : BitVec 16) :
    VariantSuperset.Statement (.subfic rt ra si) := id

theorem VariantSuperset.subfme (rt : Gpr) (ra : Gpr) (oe : Bool) (rc : Bool) :
    VariantSuperset.Statement (.subfme rt ra oe rc) := id

theorem VariantSuperset.subfze (rt : Gpr) (ra : Gpr) (oe : Bool) (rc : Bool) :
    VariantSuperset.Statement (.subfze rt ra oe rc) := id

theorem VariantSuperset.neg (rt : Gpr) (ra : Gpr) (oe : Bool) (rc : Bool) :
    VariantSuperset.Statement (.neg rt ra oe rc) := id

theorem VariantSuperset.mulli (rt : Gpr) (ra : Gpr) (si : BitVec 16) :
    VariantSuperset.Statement (.mulli rt ra si) := by
  simp [VariantSuperset.Statement, Instr.wellFormed]

theorem VariantSuperset.mullw (rt : Gpr) (ra : Gpr) (rb : Gpr) (oe : Bool) (rc : Bool) :
    VariantSuperset.Statement (.mullw rt ra rb oe rc) := by
  simp [VariantSuperset.Statement, Instr.wellFormed]

theorem VariantSuperset.mullhw (rt : Gpr) (ra : Gpr) (rb : Gpr) (rc : Bool) :
    VariantSuperset.Statement (.mullhw rt ra rb rc) := id

theorem VariantSuperset.mullhwu (rt : Gpr) (ra : Gpr) (rb : Gpr) (rc : Bool) :
    VariantSuperset.Statement (.mullhwu rt ra rb rc) := id

theorem VariantSuperset.and (ra : Gpr) (rs : Gpr) (rb : Gpr) (rc : Bool) :
    VariantSuperset.Statement (.and ra rs rb rc) := id

theorem VariantSuperset.andc (ra : Gpr) (rs : Gpr) (rb : Gpr) (rc : Bool) :
    VariantSuperset.Statement (.andc ra rs rb rc) := id

theorem VariantSuperset.or (ra : Gpr) (rs : Gpr) (rb : Gpr) (rc : Bool) :
    VariantSuperset.Statement (.or ra rs rb rc) := id

theorem VariantSuperset.orc (ra : Gpr) (rs : Gpr) (rb : Gpr) (rc : Bool) :
    VariantSuperset.Statement (.orc ra rs rb rc) := id

theorem VariantSuperset.xor (ra : Gpr) (rs : Gpr) (rb : Gpr) (rc : Bool) :
    VariantSuperset.Statement (.xor ra rs rb rc) := id

theorem VariantSuperset.nand (ra : Gpr) (rs : Gpr) (rb : Gpr) (rc : Bool) :
    VariantSuperset.Statement (.nand ra rs rb rc) := id

theorem VariantSuperset.nor (ra : Gpr) (rs : Gpr) (rb : Gpr) (rc : Bool) :
    VariantSuperset.Statement (.nor ra rs rb rc) := id

theorem VariantSuperset.eqv (ra : Gpr) (rs : Gpr) (rb : Gpr) (rc : Bool) :
    VariantSuperset.Statement (.eqv ra rs rb rc) := id

theorem VariantSuperset.andiDot (ra : Gpr) (rs : Gpr) (ui : BitVec 16) :
    VariantSuperset.Statement (.andiDot ra rs ui) := id

theorem VariantSuperset.andisDot (ra : Gpr) (rs : Gpr) (ui : BitVec 16) :
    VariantSuperset.Statement (.andisDot ra rs ui) := id

theorem VariantSuperset.ori (ra : Gpr) (rs : Gpr) (ui : BitVec 16) :
    VariantSuperset.Statement (.ori ra rs ui) := id

theorem VariantSuperset.oris (ra : Gpr) (rs : Gpr) (ui : BitVec 16) :
    VariantSuperset.Statement (.oris ra rs ui) := id

theorem VariantSuperset.xori (ra : Gpr) (rs : Gpr) (ui : BitVec 16) :
    VariantSuperset.Statement (.xori ra rs ui) := id

theorem VariantSuperset.xoris (ra : Gpr) (rs : Gpr) (ui : BitVec 16) :
    VariantSuperset.Statement (.xoris ra rs ui) := id

theorem VariantSuperset.extsb (ra : Gpr) (rs : Gpr) (rc : Bool) :
    VariantSuperset.Statement (.extsb ra rs rc) := id

theorem VariantSuperset.extsh (ra : Gpr) (rs : Gpr) (rc : Bool) :
    VariantSuperset.Statement (.extsh ra rs rc) := id

theorem VariantSuperset.cntlzw (ra : Gpr) (rs : Gpr) (rc : Bool) :
    VariantSuperset.Statement (.cntlzw ra rs rc) := id

theorem VariantSuperset.rlwimi (ra : Gpr) (rs : Gpr) (sh : BitVec 5) (mb : BitVec 5) (me : BitVec 5) (rc : Bool) :
    VariantSuperset.Statement (.rlwimi ra rs sh mb me rc) := id

theorem VariantSuperset.rlwinm (ra : Gpr) (rs : Gpr) (sh : BitVec 5) (mb : BitVec 5) (me : BitVec 5) (rc : Bool) :
    VariantSuperset.Statement (.rlwinm ra rs sh mb me rc) := id

theorem VariantSuperset.rlwnm (ra : Gpr) (rs : Gpr) (rb : Gpr) (mb : BitVec 5) (me : BitVec 5) (rc : Bool) :
    VariantSuperset.Statement (.rlwnm ra rs rb mb me rc) := id

theorem VariantSuperset.slw (ra : Gpr) (rs : Gpr) (rb : Gpr) (rc : Bool) :
    VariantSuperset.Statement (.slw ra rs rb rc) := id

theorem VariantSuperset.srw (ra : Gpr) (rs : Gpr) (rb : Gpr) (rc : Bool) :
    VariantSuperset.Statement (.srw ra rs rb rc) := id

theorem VariantSuperset.sraw (ra : Gpr) (rs : Gpr) (rb : Gpr) (rc : Bool) :
    VariantSuperset.Statement (.sraw ra rs rb rc) := id

theorem VariantSuperset.srawi (ra : Gpr) (rs : Gpr) (sh : BitVec 5) (rc : Bool) :
    VariantSuperset.Statement (.srawi ra rs sh rc) := id

theorem VariantSuperset.rldicl (da : Vdr) (ds : Vdr) (sh : BitVec 6) (mb : BitVec 6) (rc : Bool) :
    VariantSuperset.Statement (.rldicl da ds sh mb rc) := by
  simp [VariantSuperset.Statement, Instr.wellFormed]

theorem VariantSuperset.rldicr (da : Vdr) (ds : Vdr) (sh : BitVec 6) (me : BitVec 6) (rc : Bool) :
    VariantSuperset.Statement (.rldicr da ds sh me rc) := by
  simp [VariantSuperset.Statement, Instr.wellFormed]

theorem VariantSuperset.rldimi (da : Vdr) (ds : Vdr) (sh : BitVec 6) (mb : BitVec 6) (rc : Bool) :
    VariantSuperset.Statement (.rldimi da ds sh mb rc) := by
  simp [VariantSuperset.Statement, Instr.wellFormed]

theorem VariantSuperset.slvd (da : Vdr) (ds : Vdr) (rb : Gpr) (rc : Bool) :
    VariantSuperset.Statement (.slvd da ds rb rc) := by
  simp [VariantSuperset.Statement, Instr.wellFormed]

theorem VariantSuperset.srvd (da : Vdr) (ds : Vdr) (rb : Gpr) (rc : Bool) :
    VariantSuperset.Statement (.srvd da ds rb rc) := by
  simp [VariantSuperset.Statement, Instr.wellFormed]

theorem VariantSuperset.cmpw (ra : Gpr) (rb : Gpr) :
    VariantSuperset.Statement (.cmpw ra rb) := id

theorem VariantSuperset.cmplw (ra : Gpr) (rb : Gpr) :
    VariantSuperset.Statement (.cmplw ra rb) := id

theorem VariantSuperset.cmpwi (ra : Gpr) (si : BitVec 16) :
    VariantSuperset.Statement (.cmpwi ra si) := id

theorem VariantSuperset.cmplwi (ra : Gpr) (ui : BitVec 16) :
    VariantSuperset.Statement (.cmplwi ra ui) := id

theorem VariantSuperset.b (li : BitVec 24) (aa : Bool) (lk : Bool) :
    VariantSuperset.Statement (.b li aa lk) := id

theorem VariantSuperset.bc (bo : BitVec 5) (bi : BitVec 5) (bd : BitVec 14) (aa : Bool) (lk : Bool) :
    VariantSuperset.Statement (.bc bo bi bd aa lk) := id

theorem VariantSuperset.bcctr (bo : BitVec 5) (bi : BitVec 5) (lk : Bool) :
    VariantSuperset.Statement (.bcctr bo bi lk) := id

theorem VariantSuperset.bclr (bo : BitVec 5) (bi : BitVec 5) (lk : Bool) :
    VariantSuperset.Statement (.bclr bo bi lk) := id

theorem VariantSuperset.cmpwbc (px : Bool) (bix : BitVec 2) (ra : Gpr) (rb : Gpr) (bdx : BitVec 10) (lk : Bool) :
    VariantSuperset.Statement (.cmpwbc px bix ra rb bdx lk) := id

theorem VariantSuperset.cmplwbc (px : Bool) (bix : BitVec 2) (ra : Gpr) (rb : Gpr) (bdx : BitVec 10) (lk : Bool) :
    VariantSuperset.Statement (.cmplwbc px bix ra rb bdx lk) := id

theorem VariantSuperset.cmpwibc (px : Bool) (bix : BitVec 2) (ra : Gpr) (uix : BitVec 5) (bdx : BitVec 10) (lk : Bool) :
    VariantSuperset.Statement (.cmpwibc px bix ra uix bdx lk) := id

theorem VariantSuperset.bnbwi (px : Bool) (ra : Gpr) (bnx : BitVec 5) (bdx : BitVec 10) (lk : Bool) :
    VariantSuperset.Statement (.bnbwi px ra bnx bdx lk) := id

theorem VariantSuperset.bnbw (px : Bool) (ra : Gpr) (rb : Gpr) (bdx : BitVec 10) (lk : Bool) :
    VariantSuperset.Statement (.bnbw px ra rb bdx lk) := id

theorem VariantSuperset.clrbwibc (px : Bool) (ra : Gpr) (bnx : BitVec 5) (bdx : BitVec 10) (lk : Bool) :
    VariantSuperset.Statement (.clrbwibc px ra bnx bdx lk) := id

theorem VariantSuperset.clrbwbc (px : Bool) (ra : Gpr) (rb : Gpr) (bdx : BitVec 10) (lk : Bool) :
    VariantSuperset.Statement (.clrbwbc px ra rb bdx lk) := id

theorem VariantSuperset.lbz (rt : Gpr) (ra : Gpr) (d : BitVec 16) :
    VariantSuperset.Statement (.lbz rt ra d) := id

theorem VariantSuperset.lbzu (rt : Gpr) (ra : Gpr) (d : BitVec 16) :
    VariantSuperset.Statement (.lbzu rt ra d) := id

theorem VariantSuperset.lbzx (rt : Gpr) (ra : Gpr) (rb : Gpr) :
    VariantSuperset.Statement (.lbzx rt ra rb) := id

theorem VariantSuperset.lhz (rt : Gpr) (ra : Gpr) (d : BitVec 16) :
    VariantSuperset.Statement (.lhz rt ra d) := id

theorem VariantSuperset.lhzu (rt : Gpr) (ra : Gpr) (d : BitVec 16) :
    VariantSuperset.Statement (.lhzu rt ra d) := id

theorem VariantSuperset.lhzx (rt : Gpr) (ra : Gpr) (rb : Gpr) :
    VariantSuperset.Statement (.lhzx rt ra rb) := id

theorem VariantSuperset.lwz (rt : Gpr) (ra : Gpr) (d : BitVec 16) :
    VariantSuperset.Statement (.lwz rt ra d) := id

theorem VariantSuperset.lwzu (rt : Gpr) (ra : Gpr) (d : BitVec 16) :
    VariantSuperset.Statement (.lwzu rt ra d) := id

theorem VariantSuperset.lwzx (rt : Gpr) (ra : Gpr) (rb : Gpr) :
    VariantSuperset.Statement (.lwzx rt ra rb) := id

theorem VariantSuperset.lvd (dt : Vdr) (ra : Gpr) (d : BitVec 16) :
    VariantSuperset.Statement (.lvd dt ra d) := id

theorem VariantSuperset.lvdu (dt : Vdr) (ra : Gpr) (d : BitVec 16) :
    VariantSuperset.Statement (.lvdu dt ra d) := id

theorem VariantSuperset.lvdx (dt : Vdr) (ra : Gpr) (rb : Gpr) :
    VariantSuperset.Statement (.lvdx dt ra rb) := id

theorem VariantSuperset.stb (rs : Gpr) (ra : Gpr) (d : BitVec 16) :
    VariantSuperset.Statement (.stb rs ra d) := id

theorem VariantSuperset.stbu (rs : Gpr) (ra : Gpr) (d : BitVec 16) :
    VariantSuperset.Statement (.stbu rs ra d) := id

theorem VariantSuperset.stbx (rs : Gpr) (ra : Gpr) (rb : Gpr) :
    VariantSuperset.Statement (.stbx rs ra rb) := id

theorem VariantSuperset.sth (rs : Gpr) (ra : Gpr) (d : BitVec 16) :
    VariantSuperset.Statement (.sth rs ra d) := id

theorem VariantSuperset.sthu (rs : Gpr) (ra : Gpr) (d : BitVec 16) :
    VariantSuperset.Statement (.sthu rs ra d) := id

theorem VariantSuperset.sthx (rs : Gpr) (ra : Gpr) (rb : Gpr) :
    VariantSuperset.Statement (.sthx rs ra rb) := id

theorem VariantSuperset.stw (rs : Gpr) (ra : Gpr) (d : BitVec 16) :
    VariantSuperset.Statement (.stw rs ra d) := id

theorem VariantSuperset.stwu (rs : Gpr) (ra : Gpr) (d : BitVec 16) :
    VariantSuperset.Statement (.stwu rs ra d) := id

theorem VariantSuperset.stwx (rs : Gpr) (ra : Gpr) (rb : Gpr) :
    VariantSuperset.Statement (.stwx rs ra rb) := id

theorem VariantSuperset.stvd (ds : Vdr) (ra : Gpr) (d : BitVec 16) :
    VariantSuperset.Statement (.stvd ds ra d) := id

theorem VariantSuperset.stvdu (ds : Vdr) (ra : Gpr) (d : BitVec 16) :
    VariantSuperset.Statement (.stvdu ds ra d) := id

theorem VariantSuperset.stvdx (ds : Vdr) (ra : Gpr) (rb : Gpr) :
    VariantSuperset.Statement (.stvdx ds ra rb) := id

theorem VariantSuperset.lsku (rt : Gpr) (ra : Gpr) (dd : BitVec 13) :
    VariantSuperset.Statement (.lsku rt ra dd) := by
  simp [VariantSuperset.Statement, Instr.wellFormed]

theorem VariantSuperset.lcxu (rt : Gpr) (ra : Gpr) (dd : BitVec 13) :
    VariantSuperset.Statement (.lcxu rt ra dd) := by
  simp [VariantSuperset.Statement, Instr.wellFormed]

theorem VariantSuperset.stsku (rs : Gpr) (ra : Gpr) (dd : BitVec 13) :
    VariantSuperset.Statement (.stsku rs ra dd) := by
  simp [VariantSuperset.Statement, Instr.wellFormed]

theorem VariantSuperset.stcxu (rs : Gpr) (ra : Gpr) (dd : BitVec 13) :
    VariantSuperset.Statement (.stcxu rs ra dd) := by
  simp [VariantSuperset.Statement, Instr.wellFormed]

theorem VariantSuperset.dcbf (ra : Gpr) (rb : Gpr) :
    VariantSuperset.Statement (.dcbf ra rb) := id

theorem VariantSuperset.dcbi (ra : Gpr) (rb : Gpr) :
    VariantSuperset.Statement (.dcbi ra rb) := id

theorem VariantSuperset.dcbt (ra : Gpr) (rb : Gpr) :
    VariantSuperset.Statement (.dcbt ra rb) := id

theorem VariantSuperset.dcbz (ra : Gpr) (rb : Gpr) :
    VariantSuperset.Statement (.dcbz ra rb) := id

theorem VariantSuperset.dcbq (rt : Gpr) (ra : Gpr) (rb : Gpr) :
    VariantSuperset.Statement (.dcbq rt ra rb) := id

theorem VariantSuperset.sync :
    VariantSuperset.Statement (.sync) := id

theorem VariantSuperset.mfcr (rt : Gpr) :
    VariantSuperset.Statement (.mfcr rt) := id

theorem VariantSuperset.mtcrf (rs : Gpr) :
    VariantSuperset.Statement (.mtcrf rs) := id

theorem VariantSuperset.mfmsr (rt : Gpr) :
    VariantSuperset.Statement (.mfmsr rt) := id

theorem VariantSuperset.mtmsr (rs : Gpr) :
    VariantSuperset.Statement (.mtmsr rs) := id

theorem VariantSuperset.mfspr (rt : Gpr) (sprn : BitVec 10) :
    VariantSuperset.Statement (.mfspr rt sprn) := id

theorem VariantSuperset.mtspr (sprn : BitVec 10) (rs : Gpr) :
    VariantSuperset.Statement (.mtspr sprn rs) := id

theorem VariantSuperset.rfi :
    VariantSuperset.Statement (.rfi) := id

theorem VariantSuperset.tw (cond : BitVec 5) (ra : BitVec 5) (rb : BitVec 5) (tg : Bool) :
    VariantSuperset.Statement (.tw cond ra rb tg) := by
  intro h
  simpa [Instr.wellFormed, validTw] using Or.inr (by simpa [Instr.wellFormed, validTw] using h)

theorem VariantSuperset.wrtee (rs : Gpr) :
    VariantSuperset.Statement (.wrtee rs) := id

theorem VariantSuperset.wrteei (e : Bool) :
    VariantSuperset.Statement (.wrteei e) := id

end Sys2Proof.Laws
end

