-- ==== Sys2Proof/Tests/Slice0.lean ====
section
/-! SUPPORT. Tests of one step, with the results the spec's own vectors give, the smoke tests of WellFormed, and a witness of the
hypotheses of every statement. -/

namespace Sys2Proof.Tests
open Sys2Proof Sys2Proof.Machine

/-- The start of a vector: the IAR at x'1000', MSR with UIE and ME. -/
def cpu : State := { State.reset with iar := 0x1000, msr := 0x11000 }

/-- A step that runs a word from a state ends in a state with a property. -/
def ranTo (w : Word) (s : State) (p : State → Bool) : Bool :=
  match step (s.withFetchWord 32 w.toNat) with
  | .next t => p t
  | _ => false

/-! ### Decoding: for every constructor a word printed by the spec's vectors, with the assembly printed beside it (95_test_vectors.md
sections 2.1 to 2.9, 96_test_vectors_system.md section 2.10) -/

theorem test_decode_arith :
    decode .placeholder 0x7C642A14 = .ok (.add .r3 .r4 .r5 false false) ∧
    decode .placeholder 0x7C642814 = .ok (.addc .r3 .r4 .r5 false false) ∧
    decode .placeholder 0x7C642914 = .ok (.adde .r3 .r4 .r5 false false) ∧
    decode .placeholder 0x3860FFFF = .ok (.addi .r3 .r0 0xffff) ∧
    decode .placeholder 0x3064FFFF = .ok (.addic .r3 .r4 0xffff) ∧
    decode .placeholder 0x3464FFFF = .ok (.addicDot .r3 .r4 0xffff) ∧
    decode .placeholder 0x3C608000 = .ok (.addis .r3 .r0 0x8000) ∧
    decode .placeholder 0x7C6401D4 = .ok (.addme .r3 .r4 false false) ∧
    decode .placeholder 0x7C640194 = .ok (.addze .r3 .r4 false false) ∧
    decode .placeholder 0x7C642850 = .ok (.subf .r3 .r4 .r5 false false) ∧
    decode .placeholder 0x7C642010 = .ok (.subfc .r3 .r4 .r4 false false) ∧
    decode .placeholder 0x7C642910 = .ok (.subfe .r3 .r4 .r5 false false) ∧
    decode .placeholder 0x2064FFFF = .ok (.subfic .r3 .r4 0xffff) ∧
    decode .placeholder 0x7C6401D0 = .ok (.subfme .r3 .r4 false false) ∧
    decode .placeholder 0x7C640190 = .ok (.subfze .r3 .r4 false false) ∧
    decode .placeholder 0x7C6400D0 = .ok (.neg .r3 .r4 false false) ∧
    decode .placeholder 0x1C64FFFD = .ok (.mulli .r3 .r4 0xfffd) ∧
    decode .placeholder 0x7C6429D6 = .ok (.mullw .r3 .r4 .r5 false false) ∧
    decode .placeholder 0x10642B50 = .ok (.mullhw .r3 .r4 .r5 false) ∧
    decode .placeholder 0x10642B11 = .ok (.mullhwu .r3 .r4 .r5 true) := by decide

theorem test_decode_logical :
    decode .placeholder 0x7C832839 = .ok (.and .r3 .r4 .r5 true) ∧
    decode .placeholder 0x7C832879 = .ok (.andc .r3 .r4 .r5 true) ∧
    decode .placeholder 0x7C832378 = .ok (.or .r3 .r4 .r4 false) ∧
    decode .placeholder 0x7C832B38 = .ok (.orc .r3 .r4 .r5 false) ∧
    decode .placeholder 0x7C631A78 = .ok (.xor .r3 .r3 .r3 false) ∧
    decode .placeholder 0x7C832BB8 = .ok (.nand .r3 .r4 .r5 false) ∧
    decode .placeholder 0x7C8320F8 = .ok (.nor .r3 .r4 .r4 false) ∧
    decode .placeholder 0x7C832239 = .ok (.eqv .r3 .r4 .r4 true) ∧
    decode .placeholder 0x7083FFFF = .ok (.andiDot .r3 .r4 0xffff) ∧
    decode .placeholder 0x7483FFFF = .ok (.andisDot .r3 .r4 0xffff) ∧
    decode .placeholder 0x60000000 = .ok (.ori .r0 .r0 0x0) ∧
    decode .placeholder 0x6483FFFF = .ok (.oris .r3 .r4 0xffff) ∧
    decode .placeholder 0x68838000 = .ok (.xori .r3 .r4 0x8000) ∧
    decode .placeholder 0x6C838000 = .ok (.xoris .r3 .r4 0x8000) ∧
    decode .placeholder 0x7C830774 = .ok (.extsb .r3 .r4 false) ∧
    decode .placeholder 0x7C830734 = .ok (.extsh .r3 .r4 false) ∧
    decode .placeholder 0x7C830034 = .ok (.cntlzw .r3 .r4 false) := by decide

theorem test_decode_rotate_shift :
    decode .placeholder 0x5483003E = .ok (.rlwinm .r3 .r4 0x0 0x0 0x1f false) ∧
    decode .placeholder 0x5083001E = .ok (.rlwimi .r3 .r4 0x0 0x0 0xf false) ∧
    decode .placeholder 0x5C83283E = .ok (.rlwnm .r3 .r4 .r5 0x0 0x1f false) ∧
    decode .placeholder 0x7C832830 = .ok (.slw .r3 .r4 .r5 false) ∧
    decode .placeholder 0x7C832C30 = .ok (.srw .r3 .r4 .r5 false) ∧
    decode .placeholder 0x7C832E30 = .ok (.sraw .r3 .r4 .r5 false) ∧
    decode .placeholder 0x7C830670 = .ok (.srawi .r3 .r4 0x0 false) ∧
    decode .placeholder 0x78A30000 = .ok (.rldicl .d3 .d5 0x0 0x0 false) ∧
    decode .placeholder 0x78A3F806 = .ok (.rldicr .d3 .d5 0x3f 0x0 false) ∧
    decode .placeholder 0x78A3442C = .ok (.rldimi .d3 .d5 0x8 0x30 false) ∧
    decode .placeholder 0x7CA33876 = .ok (.slvd .d3 .d5 .r7 false) ∧
    decode .placeholder 0x7CA33C76 = .ok (.srvd .d3 .d5 .r7 false) := by decide

theorem test_decode_compare :
    decode .placeholder 0x7C032000 = .ok (.cmpw .r3 .r4) ∧
    decode .placeholder 0x7C032040 = .ok (.cmplw .r3 .r4) ∧
    decode .placeholder 0x2C038000 = .ok (.cmpwi .r3 0x8000) ∧
    decode .placeholder 0x28038000 = .ok (.cmplwi .r3 0x8000) := by decide

theorem test_decode_branch :
    decode .placeholder 0x48000100 = .ok (.b 0x40 false false) ∧
    decode .placeholder 0x41820010 = .ok (.bc 0xc 0x2 0x4 false false) ∧
    decode .placeholder 0x4E800020 = .ok (.bclr 0x14 0x0 false) ∧
    decode .placeholder 0x4E800420 = .ok (.bcctr 0x14 0x0 false) := by decide

theorem test_decode_fused :
    decode .placeholder 0x04C32004 = .ok (.cmpwbc true 0x2 .r3 .r4 0x2 false) ∧
    decode .placeholder 0x050327FC = .ok (.cmplwbc false 0x0 .r3 .r4 0x3fe false) ∧
    decode .placeholder 0x06C30004 = .ok (.cmpwibc true 0x2 .r3 0x0 0x2 false) ∧
    decode .placeholder 0x07A32004 = .ok (.bnbw true .r3 .r4 0x2 false) ∧
    decode .placeholder 0x0783F804 = .ok (.bnbwi true .r3 0x1f 0x2 false) ∧
    decode .placeholder 0x077C1FFC = .ok (.clrbwbc false .r28 .r3 0x3fe false) ∧
    decode .placeholder 0x07C30004 = .ok (.clrbwibc true .r3 0x0 0x2 false) := by decide

theorem test_decode_load_store :
    decode .placeholder 0x88640000 = .ok (.lbz .r3 .r4 0x0) ∧
    decode .placeholder 0x8C640001 = .ok (.lbzu .r3 .r4 0x1) ∧
    decode .placeholder 0x7C6428AE = .ok (.lbzx .r3 .r4 .r5) ∧
    decode .placeholder 0xA0640001 = .ok (.lhz .r3 .r4 0x1) ∧
    decode .placeholder 0xA464FFFE = .ok (.lhzu .r3 .r4 0xfffe) ∧
    decode .placeholder 0x7C602A2E = .ok (.lhzx .r3 .r0 .r5) ∧
    decode .placeholder 0x80640000 = .ok (.lwz .r3 .r4 0x0) ∧
    decode .placeholder 0x84640004 = .ok (.lwzu .r3 .r4 0x4) ∧
    decode .placeholder 0x7C64282E = .ok (.lwzx .r3 .r4 .r5) ∧
    decode .placeholder 0x14A40000 = .ok (.lvd .d5 .r4 0x0) ∧
    decode .placeholder 0x24A40008 = .ok (.lvdu .d5 .r4 0x8) ∧
    decode .placeholder 0x7F842822 = .ok (.lvdx .d28 .r4 .r5) ∧
    decode .placeholder 0x98640000 = .ok (.stb .r3 .r4 0x0) ∧
    decode .placeholder 0x9C640003 = .ok (.stbu .r3 .r4 0x3) ∧
    decode .placeholder 0x7C6429AE = .ok (.stbx .r3 .r4 .r5) ∧
    decode .placeholder 0xB0640000 = .ok (.sth .r3 .r4 0x0) ∧
    decode .placeholder 0xB4640002 = .ok (.sthu .r3 .r4 0x2) ∧
    decode .placeholder 0x7C642B2E = .ok (.sthx .r3 .r4 .r5) ∧
    decode .placeholder 0x90640004 = .ok (.stw .r3 .r4 0x4) ∧
    decode .placeholder 0x9484FFF0 = .ok (.stwu .r4 .r4 0xfff0) ∧
    decode .placeholder 0x7C60292E = .ok (.stwx .r3 .r0 .r5) ∧
    decode .placeholder 0x18A40000 = .ok (.stvd .d5 .r4 0x0) ∧
    decode .placeholder 0x5864FFF8 = .ok (.stvdu .d3 .r4 0xfff8) ∧
    decode .placeholder 0x7D242922 = .ok (.stvdx .d9 .r4 .r5) := by decide

theorem test_decode_stack :
    decode .placeholder 0xE821000B = .ok (.lsku .r1 .r1 0x1) ∧
    decode .placeholder 0xF821FFFB = .ok (.stsku .r1 .r1 0x1fff) ∧
    decode .placeholder 0xF821FFAF = .ok (.stcxu .r1 .r1 0x1ff5) ∧
    decode .placeholder 0xE821005F = .ok (.lcxu .r1 .r1 0xb) := by decide

theorem test_decode_cache :
    decode .placeholder 0x7C002FEC = .ok (.dcbz .r0 .r5) ∧
    decode .placeholder 0x7C642B2C = .ok (.dcbq .r3 .r4 .r5) ∧
    decode .placeholder 0x7C0428AC = .ok (.dcbf .r4 .r5) ∧
    decode .placeholder 0x7C002BAC = .ok (.dcbi .r0 .r5) ∧
    decode .placeholder 0x7C042A2C = .ok (.dcbt .r4 .r5) ∧
    decode .placeholder 0x7C0004AC = .ok (.sync) := by decide

theorem test_decode_system :
    decode .placeholder 0x7C600026 = .ok (.mfcr .r3) ∧
    decode .placeholder 0x7C680120 = .ok (.mtcrf .r3) ∧
    decode .placeholder 0x7C6000A6 = .ok (.mfmsr .r3) ∧
    decode .placeholder 0x7C600124 = .ok (.mtmsr .r3) ∧
    decode .placeholder 0x7C600106 = .ok (.wrtee .r3) ∧
    decode .placeholder 0x7C008146 = .ok (.wrteei true) ∧
    decode .placeholder 0x7C6102A6 = .ok (.mfspr .r3 0x1) ∧
    decode .placeholder 0x7C6103A6 = .ok (.mtspr 0x1 .r3) ∧
    decode .placeholder 0x4C000064 = .ok (.rfi) ∧
    decode .placeholder 0x7FE00008 = .ok (.tw 0x1f 0x0 0x0 false) := by decide

/-! ### One step of each instruction, from the spec's vectors (95_test_vectors.md, 96_test_vectors_system.md; the vector's number stands
before each) -/

/-- A2 -/
theorem test_add :
    ranTo 0x7C642E15 { cpu with gpr := { r4 := 0x7FFFFFFF, r5 := 0x1 } }
      (fun t => t.gpr.r3 = 0x80000000 && t.cr0 = ⟨true, false, false, true⟩ && t.xer.so && t.xer.ov && t.iar = 0x1004) = true := by decide

/-- A6 -/
theorem test_addc :
    ranTo 0x7C642814 { cpu with gpr := { r4 := 0x1, r5 := 0x1 }, xer := { ca := true } }
      (fun t => t.gpr.r3 = 0x2 && !t.xer.ca && t.iar = 0x1004) = true := by decide

/-- A9 -/
theorem test_adde :
    ranTo 0x7C642914 { cpu with gpr := { r4 := 0xFFFFFFFF, r5 := 0x0 }, xer := { ca := true } }
      (fun t => t.gpr.r3 = 0x0 && t.iar = 0x1004) = true := by decide

/-- A11 -/
theorem test_addi :
    ranTo 0x3860FFFF { cpu with gpr := { r0 := 0x12345678 } }
      (fun t => t.gpr.r3 = 0xFFFFFFFF && t.iar = 0x1004) = true := by decide

/-- A13 -/
theorem test_addic :
    ranTo 0x3064FFFF { cpu with gpr := { r4 := 0x0 } }
      (fun t => t.gpr.r3 = 0xFFFFFFFF && t.iar = 0x1004) = true := by decide

/-- A14 -/
theorem test_addicDot :
    ranTo 0x3464FFFF { cpu with gpr := { r4 := 0x1 } }
      (fun t => t.gpr.r3 = 0x0 && t.cr0 = ⟨false, false, true, false⟩ && t.xer.ca && t.iar = 0x1004) = true := by decide

/-- A15 -/
theorem test_addis :
    ranTo 0x3C608000 { cpu with gpr := { r0 := 0xFFFFFFFF } }
      (fun t => t.gpr.r3 = 0x80000000 && t.iar = 0x1004) = true := by decide

/-- A18 -/
theorem test_addme :
    ranTo 0x7C6405D4 { cpu with gpr := { r4 := 0x80000000 }, xer := { ca := false } }
      (fun t => t.gpr.r3 = 0x7FFFFFFF && t.xer.so && t.xer.ov && t.xer.ca && t.iar = 0x1004) = true := by decide

/-- A20 -/
theorem test_addze :
    ranTo 0x7C640595 { cpu with gpr := { r4 := 0x7FFFFFFF }, xer := { ca := true } }
      (fun t => t.gpr.r3 = 0x80000000 && t.cr0 = ⟨true, false, false, true⟩ && t.xer.so && t.xer.ov && !t.xer.ca && t.iar = 0x1004) = true := by decide

/-- A21 -/
theorem test_subf :
    ranTo 0x7C642850 { cpu with gpr := { r4 := 0x5, r5 := 0x3 } }
      (fun t => t.gpr.r3 = 0xFFFFFFFE && t.iar = 0x1004) = true := by decide

/-- A24 -/
theorem test_subfc :
    ranTo 0x7C642810 { cpu with gpr := { r4 := 0x5, r5 := 0x3 }, xer := { ca := true } }
      (fun t => t.gpr.r3 = 0xFFFFFFFE && !t.xer.ca && t.iar = 0x1004) = true := by decide

/-- A25 -/
theorem test_subfe :
    ranTo 0x7C642910 { cpu with gpr := { r4 := 0x0, r5 := 0x0 }, xer := { ca := false } }
      (fun t => t.gpr.r3 = 0xFFFFFFFF && t.iar = 0x1004) = true := by decide

/-- A28 -/
theorem test_subfic :
    ranTo 0x20640005 { cpu with gpr := { r4 := 0x7 }, xer := { ca := true } }
      (fun t => t.gpr.r3 = 0xFFFFFFFE && !t.xer.ca && t.iar = 0x1004) = true := by decide

/-- A29 -/
theorem test_subfme :
    ranTo 0x7C6401D0 { cpu with gpr := { r4 := 0x0 }, xer := { ca := false } }
      (fun t => t.gpr.r3 = 0xFFFFFFFE && t.xer.ca && t.iar = 0x1004) = true := by decide

/-- A31 -/
theorem test_subfze :
    ranTo 0x7C640590 { cpu with gpr := { r4 := 0x80000000 }, xer := { ca := true } }
      (fun t => t.gpr.r3 = 0x80000000 && t.xer.so && t.xer.ov && !t.xer.ca && t.iar = 0x1004) = true := by decide

/-- A34 -/
theorem test_neg :
    ranTo 0x7C6404D0 { cpu with gpr := { r4 := 0x80000000 } }
      (fun t => t.gpr.r3 = 0x80000000 && t.xer.so && t.xer.ov && t.iar = 0x1004) = true := by decide

/-- A35 -/
theorem test_mulli :
    ranTo 0x1C64FFFD { cpu with gpr := { r4 := 0x7 } }
      (fun t => t.gpr.r3 = 0xFFFFFFEB && t.iar = 0x1004) = true := by decide

/-- A39 -/
theorem test_mullw :
    ranTo 0x7C642DD7 { cpu with gpr := { r4 := 0x10000, r5 := 0x8000 } }
      (fun t => t.gpr.r3 = 0x80000000 && t.cr0 = ⟨true, false, false, true⟩ && t.xer.so && t.xer.ov && t.iar = 0x1004) = true := by decide

/-- A42 -/
theorem test_mullhw :
    ranTo 0x10642B51 { cpu with gpr := { r4 := 0x8000, r5 := 0x1 } }
      (fun t => t.gpr.r3 = 0xFFFF8000 && t.cr0 = ⟨true, false, false, false⟩ && t.iar = 0x1004) = true := by decide

/-- A43 -/
theorem test_mullhwu :
    ranTo 0x10642B11 { cpu with gpr := { r4 := 0xFFFF, r5 := 0xFFFF } }
      (fun t => t.gpr.r3 = 0xFFFE0001 && t.cr0 = ⟨true, false, false, false⟩ && t.iar = 0x1004) = true := by decide

/-- L1 -/
theorem test_and :
    ranTo 0x7C832839 { cpu with gpr := { r4 := 0xF0F0F0F0, r5 := 0xF0F0F0F } }
      (fun t => t.gpr.r3 = 0x0 && t.cr0 = ⟨false, false, true, false⟩ && t.iar = 0x1004) = true := by decide

/-- L2 -/
theorem test_andc :
    ranTo 0x7C832879 { cpu with gpr := { r4 := 0xFFFF0000, r5 := 0x7F00FF00 }, xer := { so := true } }
      (fun t => t.gpr.r3 = 0x80FF0000 && t.cr0 = ⟨true, false, false, true⟩ && t.iar = 0x1004) = true := by decide

/-- L4 -/
theorem test_or :
    ranTo 0x7C832B79 { cpu with gpr := { r4 := 0x1, r5 := 0x100 } }
      (fun t => t.gpr.r3 = 0x101 && t.cr0 = ⟨false, true, false, false⟩ && t.iar = 0x1004) = true := by decide

/-- L5 -/
theorem test_orc :
    ranTo 0x7C832B38 { cpu with gpr := { r4 := 0x0, r5 := 0xFFFFFFFF } }
      (fun t => t.gpr.r3 = 0x0 && t.iar = 0x1004) = true := by decide

/-- L6 -/
theorem test_xor :
    ranTo 0x7C631A78 { cpu with gpr := { r3 := 0x12345678 } }
      (fun t => t.gpr.r3 = 0x0 && t.iar = 0x1004) = true := by decide

/-- L7 -/
theorem test_nand :
    ranTo 0x7C832BB8 { cpu with gpr := { r4 := 0xFFFF0000, r5 := 0xFF00FF00 } }
      (fun t => t.gpr.r3 = 0xFFFFFF && t.iar = 0x1004) = true := by decide

/-- L8 -/
theorem test_nor :
    ranTo 0x7C8320F8 { cpu with gpr := { r4 := 0x12345678 } }
      (fun t => t.gpr.r3 = 0xEDCBA987 && t.iar = 0x1004) = true := by decide

/-- L9 -/
theorem test_eqv :
    ranTo 0x7C832239 { cpu with gpr := { r4 := 0x12345678 } }
      (fun t => t.gpr.r3 = 0xFFFFFFFF && t.cr0 = ⟨true, false, false, false⟩ && t.iar = 0x1004) = true := by decide

/-- L10 -/
theorem test_andiDot :
    ranTo 0x7083FFFF { cpu with gpr := { r4 := 0xABCD8000 } }
      (fun t => t.gpr.r3 = 0x8000 && t.cr0 = ⟨false, true, false, false⟩ && t.iar = 0x1004) = true := by decide

/-- L11 -/
theorem test_andisDot :
    ranTo 0x7483FFFF { cpu with gpr := { r4 := 0xABCD8000 } }
      (fun t => t.gpr.r3 = 0xABCD0000 && t.cr0 = ⟨true, false, false, false⟩ && t.iar = 0x1004) = true := by decide

/-- L12 -/
theorem test_ori :
    ranTo 0x60000000 { cpu with gpr := { r0 := 0x55 } }
      (fun t => t.iar = 0x1004) = true := by decide

/-- L13 -/
theorem test_oris :
    ranTo 0x6483FFFF { cpu with gpr := { r4 := 0x1234 } }
      (fun t => t.gpr.r3 = 0xFFFF1234 && t.iar = 0x1004) = true := by decide

/-- L14 -/
theorem test_xori :
    ranTo 0x68838000 { cpu with gpr := { r4 := 0x8000 } }
      (fun t => t.gpr.r3 = 0x0 && t.iar = 0x1004) = true := by decide

/-- L15 -/
theorem test_xoris :
    ranTo 0x6C838000 { cpu with gpr := { r4 := 0x0 } }
      (fun t => t.gpr.r3 = 0x80000000 && t.iar = 0x1004) = true := by decide

/-- L17 -/
theorem test_extsb :
    ranTo 0x7C830775 { cpu with gpr := { r4 := 0x80 } }
      (fun t => t.gpr.r3 = 0xFFFFFF80 && t.cr0 = ⟨true, false, false, false⟩ && t.iar = 0x1004) = true := by decide

/-- L19 -/
theorem test_extsh :
    ranTo 0x7C830735 { cpu with gpr := { r4 := 0x8000 } }
      (fun t => t.gpr.r3 = 0xFFFF8000 && t.cr0 = ⟨true, false, false, false⟩ && t.iar = 0x1004) = true := by decide

/-- L22 -/
theorem test_cntlzw :
    ranTo 0x7C830035 { cpu with gpr := { r4 := 0x1 } }
      (fun t => t.gpr.r3 = 0x1F && t.cr0 = ⟨false, true, false, false⟩ && t.iar = 0x1004) = true := by decide

/-- S7 -/
theorem test_rlwimi :
    ranTo 0x50838707 { cpu with gpr := { r3 := 0x1111110, r4 := 0xFF000 } }
      (fun t => t.gpr.r3 = 0xF111111F && t.cr0 = ⟨true, false, false, false⟩ && t.iar = 0x1004) = true := by decide

/-- S2 -/
theorem test_rlwinm :
    ranTo 0x54830706 { cpu with gpr := { r4 := 0x89ABCDEF } }
      (fun t => t.gpr.r3 = 0x8000000F && t.iar = 0x1004) = true := by decide

/-- S9 -/
theorem test_rlwnm :
    ranTo 0x5C832E3E { cpu with gpr := { r4 := 0x12345678, r5 := 0x8 } }
      (fun t => t.gpr.r3 = 0x12 && t.iar = 0x1004) = true := by decide

/-- S13 -/
theorem test_slw :
    ranTo 0x7C832831 { cpu with gpr := { r4 := 0x3, r5 := 0x41 } }
      (fun t => t.gpr.r3 = 0x6 && t.cr0 = ⟨false, true, false, false⟩ && t.iar = 0x1004) = true := by decide

/-- S14 -/
theorem test_srw :
    ranTo 0x7C832C30 { cpu with gpr := { r4 := 0xFFFFFFFF, r5 := 0x4 } }
      (fun t => t.gpr.r3 = 0xFFFFFFF && t.iar = 0x1004) = true := by decide

/-- S20 -/
theorem test_sraw :
    ranTo 0x7C832E31 { cpu with gpr := { r4 := 0x80000000, r5 := 0x20 } }
      (fun t => t.gpr.r3 = 0xFFFFFFFF && t.cr0 = ⟨true, false, false, false⟩ && t.xer.ca && t.iar = 0x1004) = true := by decide

/-- S22 -/
theorem test_srawi :
    ranTo 0x7C831670 { cpu with gpr := { r4 := 0xFFFFFFF9 } }
      (fun t => t.gpr.r3 = 0xFFFFFFFE && t.xer.ca && t.iar = 0x1004) = true := by decide

/-- S25 -/
theorem test_rldicl :
    ranTo 0x78A30021 { cpu with gpr := { r5 := 0xFFFFFFFF, r6 := 0x80000000 } }
      (fun t => t.gpr.r3 = 0x0 && t.gpr.r4 = 0x80000000 && t.cr0 = ⟨false, true, false, false⟩ && t.iar = 0x1004) = true := by decide

/-- S27 -/
theorem test_rldicr :
    ranTo 0x78A3F806 { cpu with gpr := { r5 := 0x0, r6 := 0x1 } }
      (fun t => t.gpr.r3 = 0x80000000 && t.gpr.r4 = 0x0 && t.iar = 0x1004) = true := by decide

/-- S29 -/
theorem test_rldimi :
    ranTo 0x78A3442C { cpu with gpr := { r3 := 0x11111111, r4 := 0x22222222, r5 := 0x0, r6 := 0xAB } }
      (fun t => t.gpr.r4 = 0x2222AB22 && t.iar = 0x1004) = true := by decide

/-- S36 -/
theorem test_slvd :
    ranTo 0x7CA33877 { cpu with gpr := { r5 := 0x0, r6 := 0x1, r7 := 0x3F } }
      (fun t => t.gpr.r3 = 0x80000000 && t.gpr.r4 = 0x0 && t.cr0 = ⟨true, false, false, false⟩ && t.iar = 0x1004) = true := by decide

/-- S41 -/
theorem test_srvd :
    ranTo 0x7CA52C76 { cpu with gpr := { r5 := 0x8, r6 := 0xFF00 } }
      (fun t => t.gpr.r5 = 0x0 && t.gpr.r6 = 0x80000FF && t.iar = 0x1004) = true := by decide

/-- C3 -/
theorem test_cmpw :
    ranTo 0x7C032000 { cpu with cr0 := ⟨true, false, false, false⟩, gpr := { r3 := 0x80000000, r4 := 0x80000000 }, xer := { so := true } }
      (fun t => t.cr0 = ⟨false, false, true, true⟩ && t.iar = 0x1004) = true := by decide

/-- C2 -/
theorem test_cmplw :
    ranTo 0x7C032040 { cpu with gpr := { r3 := 0x0, r4 := 0xFFFFFFFF } }
      (fun t => t.cr0 = ⟨true, false, false, false⟩ && t.iar = 0x1004) = true := by decide

/-- C4 -/
theorem test_cmpwi :
    ranTo 0x2C038000 { cpu with gpr := { r3 := 0xFFFF7FFF } }
      (fun t => t.cr0 = ⟨true, false, false, false⟩ && t.iar = 0x1004) = true := by decide

/-- C5 -/
theorem test_cmplwi :
    ranTo 0x28038000 { cpu with gpr := { r3 := 0x8000 } }
      (fun t => t.cr0 = ⟨false, false, true, false⟩ && t.iar = 0x1004) = true := by decide

/-- B5 -/
theorem test_b :
    ranTo 0x48000103 { cpu with lr := 0x1111, iar := 0xFFFFFFFC }
      (fun t => t.lr = 0x0 && t.iar = 0x00000100) = true := by decide

/-- B12 -/
theorem test_bc :
    ranTo 0x41010008 { cpu with ctr := 0x5, cr0 := ⟨true, false, false, false⟩, iar := 0x00002000 }
      (fun t => t.ctr = 0x4 && t.iar = 0x2004) = true := by decide

/-- B23 -/
theorem test_bcctr :
    ranTo 0x4D810420 { cpu with ctr := 0x4000, cr0 := ⟨false, true, false, false⟩, iar := 0x00002000 }
      (fun t => t.iar = 0x00004000) = true := by decide

/-- B19 -/
theorem test_bclr :
    ranTo 0x4E800021 { cpu with lr := 0x3000, iar := 0x00002000 }
      (fun t => t.lr = 0x2004 && t.iar = 0x00003000) = true := by decide

/-- F4 -/
theorem test_cmpwbc :
    ranTo 0x04E32006 { cpu with gpr := { r3 := 0x7, r4 := 0x7 }, iar := 0x00002000 }
      (fun t => t.gpr.r3 = 0x0 && t.cr0 = ⟨false, false, true, false⟩ && t.iar = 0x0000200C) = true := by decide

/-- F6 -/
theorem test_cmplwbc :
    ranTo 0x05E32006 { cpu with gpr := { r3 := 0x1, r4 := 0x2 }, iar := 0x00002000 }
      (fun t => t.gpr.r3 = 0xFFFFFFFF && t.cr0 = ⟨true, false, false, false⟩ && t.iar = 0x2004) = true := by decide

/-- F9 -/
theorem test_cmpwibc :
    ranTo 0x06630FFE { cpu with gpr := { r3 := 0x3 }, iar := 0x00002000 }
      (fun t => t.gpr.r3 = 0x2 && t.cr0 = ⟨false, true, false, false⟩ && t.iar = 0x00001FFC) = true := by decide

/-- F14 -/
theorem test_bnbwi :
    ranTo 0x0783F804 { cpu with gpr := { r3 := 0x1 }, iar := 0x00002000 }
      (fun t => t.cr0 = ⟨false, true, false, false⟩ && t.iar = 0x2004) = true := by decide

/-- F13 -/
theorem test_bnbw :
    ranTo 0x07232004 { cpu with gpr := { r3 := 0x80000000, r4 := 0x0 }, iar := 0x00002000 }
      (fun t => t.cr0 = ⟨true, false, false, false⟩ && t.iar = 0x00002008) = true := by decide

/-- F19 -/
theorem test_clrbwibc :
    ranTo 0x07432804 { cpu with gpr := { r3 := 0x80000000 }, iar := 0x00002000 }
      (fun t => t.cr0 = ⟨true, false, false, false⟩ && t.iar = 0x00002008) = true := by decide

/-- F15 -/
theorem test_clrbwbc :
    ranTo 0x077C1FFC { cpu with gpr := { r28 := 0x80000001, r3 := 0x0 }, iar := 0x00002000 }
      (fun t => t.gpr.r28 = 0x1 && t.cr0 = ⟨false, true, false, false⟩ && t.iar = 0x00001FF8) = true := by decide

/-- M3 -/
theorem test_lbz :
    ranTo 0x8864FFFF { cpu with gpr := { r4 := 0x0 }, mem := writeMem .byte [] 0xFFFFFFFF 0xAB }
      (fun t => t.gpr.r3 = 0xAB && t.iar = 0x1004) = true := by decide

/-- M4 -/
theorem test_lbzu :
    ranTo 0x8C640001 { cpu with gpr := { r4 := 0x2000 }, mem := writeMem .word (writeMem .word [] 0x00002000 0x80C1F2E3) 0x00002004 0x04152637 }
      (fun t => t.gpr.r3 = 0xC1 && t.gpr.r4 = 0x2001 && t.iar = 0x1004) = true := by decide

/-- M7 -/
theorem test_lbzx :
    ranTo 0x7C6428AE { cpu with gpr := { r4 := 0x2000, r5 := 0xFFFFFFFF }, mem := writeMem .byte [] 0x00001FFF 0x7E }
      (fun t => t.gpr.r3 = 0x7E && t.iar = 0x1004) = true := by decide

/-- M8 -/
theorem test_lhz :
    ranTo 0xA0640001 { cpu with gpr := { r4 := 0x2000 }, mem := writeMem .word (writeMem .word [] 0x00002000 0x80C1F2E3) 0x00002004 0x04152637 }
      (fun t => t.gpr.r3 = 0xC1F2 && t.iar = 0x1004) = true := by decide

/-- M10 -/
theorem test_lhzu :
    ranTo 0xA464FFFE { cpu with gpr := { r4 := 0x2004 }, mem := writeMem .word (writeMem .word [] 0x00002000 0x80C1F2E3) 0x00002004 0x04152637 }
      (fun t => t.gpr.r3 = 0xF2E3 && t.gpr.r4 = 0x2002 && t.iar = 0x1004) = true := by decide

/-- M11 -/
theorem test_lhzx :
    ranTo 0x7C602A2E { cpu with gpr := { r5 := 0x2002, r0 := 0x1000 }, mem := writeMem .word (writeMem .word [] 0x00002000 0x80C1F2E3) 0x00002004 0x04152637 }
      (fun t => t.gpr.r3 = 0xF2E3 && t.iar = 0x1004) = true := by decide

/-- M13 -/
theorem test_lwz :
    ranTo 0x80640003 { cpu with gpr := { r4 := 0x2000 }, mem := writeMem .word (writeMem .word [] 0x00002000 0x80C1F2E3) 0x00002004 0x04152637 }
      (fun t => t.gpr.r3 = 0xE3041526 && t.iar = 0x1004) = true := by decide

/-- M15 -/
theorem test_lwzu :
    ranTo 0x84640004 { cpu with gpr := { r4 := 0x2000 }, mem := writeMem .word (writeMem .word [] 0x00002000 0x80C1F2E3) 0x00002004 0x04152637 }
      (fun t => t.gpr.r3 = 0x4152637 && t.gpr.r4 = 0x2004 && t.iar = 0x1004) = true := by decide

/-- M16 -/
theorem test_lwzx :
    ranTo 0x7C64282E { cpu with gpr := { r4 := 0xFFFFF000, r5 := 0x3000 }, mem := writeMem .word (writeMem .word [] 0x00002000 0x80C1F2E3) 0x00002004 0x04152637 }
      (fun t => t.gpr.r3 = 0x80C1F2E3 && t.iar = 0x1004) = true := by decide

/-- M19 -/
theorem test_lvd :
    ranTo 0x17E40000 { cpu with gpr := { r4 := 0x2000 }, mem := writeMem .word (writeMem .word [] 0x00002000 0x80C1F2E3) 0x00002004 0x04152637 }
      (fun t => t.gpr.r0 = 0x4152637 && t.gpr.r31 = 0x80C1F2E3 && t.iar = 0x1004) = true := by decide

/-- M23 -/
theorem test_lvdu :
    ranTo 0x24A40008 { cpu with gpr := { r4 := 0x1FF8 }, mem := writeMem .word (writeMem .word [] 0x00002000 0x80C1F2E3) 0x00002004 0x04152637 }
      (fun t => t.gpr.r4 = 0x2000 && t.gpr.r5 = 0x80C1F2E3 && t.gpr.r6 = 0x4152637 && t.iar = 0x1004) = true := by decide

/-- M25 -/
theorem test_lvdx :
    ranTo 0x7F842822 { cpu with gpr := { r4 := 0x2000, r5 := 0x0 }, mem := writeMem .word (writeMem .word [] 0x00002000 0x80C1F2E3) 0x00002004 0x04152637 }
      (fun t => t.gpr.r28 = 0x80C1F2E3 && t.gpr.r29 = 0x4152637 && t.iar = 0x1004) = true := by decide

/-- M26 -/
theorem test_stb :
    ranTo 0x98640000 { cpu with gpr := { r3 := 0x11223344, r4 := 0x2000 }, mem := writeMem .word (writeMem .word [] 0x00002000 0x80C1F2E3) 0x00002004 0x04152637 }
      (fun t => readMem .word t.mem 0x00002000 = 0x44C1F2E3 && t.iar = 0x1004) = true := by decide

/-- M27 -/
theorem test_stbu :
    ranTo 0x9C640003 { cpu with gpr := { r3 := 0x11223344, r4 := 0x2000 }, mem := writeMem .word (writeMem .word [] 0x00002000 0x80C1F2E3) 0x00002004 0x04152637 }
      (fun t => t.gpr.r4 = 0x2003 && readMem .word t.mem 0x00002000 = 0x80C1F244 && t.iar = 0x1004) = true := by decide

/-- M28 -/
theorem test_stbx :
    ranTo 0x7C6429AE { cpu with gpr := { r3 := 0x11223344, r4 := 0x2000, r5 := 0x5 }, mem := writeMem .word (writeMem .word [] 0x00002000 0x80C1F2E3) 0x00002004 0x04152637 }
      (fun t => readMem .word t.mem 0x00002004 = 0x04442637 && t.iar = 0x1004) = true := by decide

/-- M30 -/
theorem test_sth :
    ranTo 0xB0640003 { cpu with gpr := { r3 := 0x11223344, r4 := 0x2000 }, mem := writeMem .word (writeMem .word [] 0x00002000 0x80C1F2E3) 0x00002004 0x04152637 }
      (fun t => readMem .word t.mem 0x00002000 = 0x80C1F233 && readMem .word t.mem 0x00002004 = 0x44152637 && t.iar = 0x1004) = true := by decide

/-- M31 -/
theorem test_sthu :
    ranTo 0xB4640002 { cpu with gpr := { r3 := 0x11223344, r4 := 0x2000 }, mem := writeMem .word (writeMem .word [] 0x00002000 0x80C1F2E3) 0x00002004 0x04152637 }
      (fun t => t.gpr.r4 = 0x2002 && readMem .word t.mem 0x00002000 = 0x80C13344 && t.iar = 0x1004) = true := by decide

/-- M32 -/
theorem test_sthx :
    ranTo 0x7C642B2E { cpu with gpr := { r3 := 0x11223344, r4 := 0x2000, r5 := 0x6 }, mem := writeMem .word (writeMem .word [] 0x00002000 0x80C1F2E3) 0x00002004 0x04152637 }
      (fun t => readMem .word t.mem 0x00002004 = 0x04153344 && t.iar = 0x1004) = true := by decide

/-- M34 -/
theorem test_stw :
    ranTo 0x9064FFFE { cpu with gpr := { r3 := 0x11223344, r4 := 0x0 } }
      (fun t => readMem .word t.mem 0xFFFFFFFC = 0x00001122 && readMem .word t.mem 0x00000000 = 0x33440000 && t.iar = 0x1004) = true := by decide

/-- M35 -/
theorem test_stwu :
    ranTo 0x9484FFF0 { cpu with gpr := { r4 := 0x3000 } }
      (fun t => t.gpr.r4 = 0x2FF0 && readMem .word t.mem 0x00002FF0 = 0x00003000 && t.iar = 0x1004) = true := by decide

/-- M37 -/
theorem test_stwx :
    ranTo 0x7C60292E { cpu with gpr := { r3 := 0x11223344, r5 := 0x2004, r0 := 0x7777 }, mem := writeMem .word (writeMem .word [] 0x00002000 0x80C1F2E3) 0x00002004 0x04152637 }
      (fun t => readMem .word t.mem 0x00002004 = 0x11223344 && t.iar = 0x1004) = true := by decide

/-- M38 -/
theorem test_stvd :
    ranTo 0x18A40000 { cpu with gpr := { r5 := 0xAAAAAAAA, r6 := 0xBBBBBBBB, r4 := 0x2000 }, mem := writeMem .word (writeMem .word [] 0x00002000 0x80C1F2E3) 0x00002004 0x04152637 }
      (fun t => readMem .dword t.mem 0x00002000 = 0xAAAAAAAABBBBBBBB && t.iar = 0x1004) = true := by decide

/-- M40 -/
theorem test_stvdu :
    ranTo 0x5864FFF8 { cpu with gpr := { r3 := 0xAAAAAAAA, r4 := 0x2008 }, mem := writeMem .word (writeMem .word [] 0x00002000 0x80C1F2E3) 0x00002004 0x04152637 }
      (fun t => t.gpr.r4 = 0x2000 && readMem .dword t.mem 0x00002000 = 0xAAAAAAAA00002008 && t.iar = 0x1004) = true := by decide

/-- M42 -/
theorem test_stvdx :
    ranTo 0x7D242922 { cpu with gpr := { r9 := 0x99999999, r10 := 0x10101010, r4 := 0x2000, r5 := 0x8 }, mem := writeMem .word (writeMem .word [] 0x00002000 0x80C1F2E3) 0x00002004 0x04152637 }
      (fun t => readMem .dword t.mem 0x00002008 = 0x9999999910101010 && t.iar = 0x1004) = true := by decide

/-- K5 -/
theorem test_lsku :
    ranTo 0xEBDE001B { cpu with gpr := { r30 := 0x2FE8 }, mem := writeMem .dword (writeMem .dword (writeMem .word [] 0x00003004 0x00001234) 0x00002FF8 0x0000003000000031) 0x00002FF0 0x0000002800000029 }
      (fun t => t.gpr.r28 = 0x28 && t.gpr.r29 = 0x29 && t.gpr.r30 = 0x3000 && t.gpr.r31 = 0x31 && t.lr = 0x1234 && t.iar = 0x1004) = true := by decide

/-- K15 -/
theorem test_stsku :
    ranTo 0xF821FFEB { cpu with lr := 0x1234, gpr := { r1 := 0x3000, r28 := 0x28, r29 := 0x29, r30 := 0x30, r31 := 0x31 } }
      (fun t => t.gpr.r1 = 0x2FE8 && t.edr = 0x3000 && readMem .word t.mem 0x00003004 = 0x00001234 && readMem .dword t.mem 0x00002FF8 = 0x0000003000000031 && readMem .dword t.mem 0x00002FF0 = 0x0000002800000029 && t.iar = 0x1004) = true := by decide

/-- Q3 -/
theorem test_dcbf :
    ranTo 0x7C0428AC { cpu with gpr := { r4 := 0x2000, r5 := 0x4 }, mem := writeMem .word (writeMem .word [] 0x00002000 0x80C1F2E3) 0x00002004 0x04152637 }
      (fun t => t.iar = 0x1004) = true := by decide

/-- Q4 -/
theorem test_dcbi :
    ranTo 0x7C002BAC { cpu with gpr := { r5 := 0x2000 }, mem := writeMem .word (writeMem .word [] 0x00002000 0x80C1F2E3) 0x00002004 0x04152637 }
      (fun t => t.iar = 0x1004) = true := by decide

/-- Q5 -/
theorem test_dcbt :
    ranTo 0x7C042A2C { cpu with gpr := { r4 := 0x2000, r5 := 0x0 }, mem := writeMem .word (writeMem .word [] 0x00002000 0x80C1F2E3) 0x00002004 0x04152637 }
      (fun t => t.iar = 0x1004) = true := by decide

/-- Q1 -/
theorem test_dcbz :
    ranTo 0x7C002FEC { cpu with gpr := { r5 := 0x2011 }, mem := writeMem .word (writeMem .dword (writeMem .dword (writeMem .word [] 0x00001FFC 0xFFFFFFFF) 0x00002000 0x1111111122222222) 0x00002018 0x3333333344444444) 0x00002020 0xFFFFFFFF }
      (fun t => readMem .word t.mem 0x00001FFC = 0xFFFFFFFF && readMem .dword t.mem 0x00002000 = 0x0000000000000000 && readMem .dword t.mem 0x00002018 = 0x0000000000000000 && readMem .word t.mem 0x00002020 = 0xFFFFFFFF && t.iar = 0x1004) = true := by decide

/-- Q2 -/
theorem test_dcbq :
    ranTo 0x7C642B2C { cpu with gpr := { r4 := 0x2000, r5 := 0x0 } }
      (fun t => t.gpr.r3 = 0x0 && t.iar = 0x1004) = true := by decide

/-- Q6 -/
theorem test_sync :
    ranTo 0x7C0004AC cpu
      (fun t => t.iar = 0x1004) = true := by decide

/-- Y1 -/
theorem test_mfcr :
    ranTo 0x7C600026 { cpu with cr0 := ⟨true, false, true, false⟩ }
      (fun t => t.gpr.r3 = 0xA0000000 && t.iar = 0x1004) = true := by decide

/-- Y2 -/
theorem test_mtcrf :
    ranTo 0x7C680120 { cpu with gpr := { r3 := 0x5FFFFFFF } }
      (fun t => t.cr0 = ⟨false, true, false, true⟩ && t.iar = 0x1004) = true := by decide

/-- Y6 -/
theorem test_mfmsr :
    ranTo 0x7C6000A6 { cpu with msr := 0x19000 }
      (fun t => t.gpr.r3 = 0x19000 && t.iar = 0x1004) = true := by decide

/-- Y7 -/
theorem test_mtmsr :
    ranTo 0x7C600124 { cpu with msr := 0x0, gpr := { r3 := 0xFFFBFFFF } }
      (fun t => t.msr = 0x7FFB9DFF && t.iar = 0x1004) = true := by decide

/-- Y16 -/
theorem test_mfspr :
    ranTo 0x7C6102A6 { cpu with xer := { so := true, ca := true } }
      (fun t => t.gpr.r3 = 0xA0000000 && t.iar = 0x1004) = true := by decide

/-- Y42 -/
theorem test_mtspr :
    ranTo 0x7C7603A6 { cpu with dec := 0x10, gpr := { r3 := 0xFFFFFFFF } }
      (fun t => t.dec = 0xFFFFFFFF && t.tsr = 0x8000000 && t.iar = 0x1004) = true := by decide

/-- Y52 -/
theorem test_rfi :
    ranTo 0x4C000064 { cpu with srr0 := 0x2000, srr1 := 0x7FFB9DFF, msr := 0x0, iar := 0x000000E0 }
      (fun t => t.msr = 0x7FFB9DFF && t.iar = 0x00002000) = true := by decide

/-- Y56 -/
theorem test_tw :
    ranTo 0x7FE32008 { cpu with msr := 0x11000, dbcr := 0x1000000, iar := 0x00002000 }
      (fun t => t.halted && t.xsr.trap && t.xsr.hc = 4 && t.iar = 0x00002000) = true := by decide

/-- Y11 -/
theorem test_wrtee :
    ranTo 0x7C600106 { cpu with msr := 0x11000, gpr := { r3 := 0xFFFFFFFF } }
      (fun t => t.msr = 0x19000 && t.iar = 0x1004) = true := by decide

/-- Y13 -/
theorem test_wrteei :
    ranTo 0x7C008146 { cpu with msr := 0x11000 }
      (fun t => t.msr = 0x19000 && t.iar = 0x1004) = true := by decide

/-- K20, the words of LR, the back pointer, the old GPR1, CTR and XER -/
theorem test_stcxu :
    ranTo 0xF821FFAF
      { cpu with
        lr := 0x1234, ctr := 7, xer := { so := true, ca := true }, sprg0 := 0x5A, cr0 := ⟨false, true, false, true⟩
        gpr := { r1 := 0x3000, r31 := 0x31 } }
      (fun t => t.gpr.r1 = 0x2FA8 && t.edr = 0x3000 && readWord t.mem 0x3004 = 0x1234 && readWord t.mem 0x2FA8 = 0x3000 &&
        readMem .dword t.mem 0x2FE0 = 0xA000000000000007 && readWord t.mem 0x2FBC = 0x3000 &&
        readMem .dword t.mem 0x2FB0 = 0x500000000000005A) = true := by decide

/-- K25, the reserved bits of the restored words -/
theorem test_lcxu :
    ranTo 0xE821005F
      { cpu with
        mem := writeMem .dword (writeMem .dword (writeMem .dword [] 0x2FE8 0x00000103FFFFFFFF) 0x2FE0 0xFFFFFFFF00000007)
          0x2FB0 0x4FFFFFFF0000005A
        gpr := { r1 := 0x2FA8 } }
      (fun t => t.gpr.r1 = 0x3000 && t.srr0 = 0x100 && t.srr1 = 0x7FFF9DFF && t.xer = ⟨true, true, true⟩ && t.ctr = 7 &&
        t.cr0 = ⟨false, true, false, false⟩ && t.sprg0 = 0x5A && t.edr = 0x3000) = true := by decide

/-! ### Words that are no instruction, and ill-formed terms -/

/-- Unassigned opcodes: word 0, `sc`, `isync`, MD-form extended opcode 2, a stack word with XO 0 (30_encoding.md R176 a) -/
theorem test_decode_unassigned :
    decode .placeholder 0 = .error .unassigned ∧ decode .placeholder 0x44000002 = .error .unassigned ∧ decode .placeholder 0x4C00012C = .error .unassigned ∧
    decode .placeholder 0x78A30008 = .error .unassigned ∧ decode .placeholder 0xE8210010 = .error .unassigned := by decide

/-- C7, C8, Y3, Y4, Y5: fixed fields with a wrong value (30_encoding.md R176 b) -/
theorem test_decode_fixed_fields :
    decode .placeholder 0x7C232000 = .error .unassigned ∧ decode .placeholder 0x2C830000 = .error .unassigned ∧ decode .placeholder 0x7C6FF120 = .error .unassigned ∧
    decode .placeholder 0x7C604120 = .error .unassigned ∧ decode .placeholder 0x7C780120 = .error .unassigned := by decide

/-- A44, A46, M21, M22: undefined registers (30_encoding.md R176 c) -/
theorem test_decode_undefined_registers :
    decode .placeholder 0x7D642A14 = .error (.undefinedGpr 11) ∧ decode .placeholder 0x7C646214 = .error (.undefinedGpr 12) ∧
    decode .placeholder 0x15440000 = .error (.undefinedVdr 10) ∧ decode .placeholder 0x15A40000 = .error (.undefinedVdr 13) := by decide

/-- B25, L23: reserved bits are ignored (30_encoding.md R142) -/
theorem test_decode_reserved_bits :
    decode .placeholder 0x4E801820 = .ok (.bclr 20 0 false) ∧ decode .placeholder 0x7C83FF74 = .ok (.extsb .r3 .r4 false) := by decide

/-- The words of the PPE 42X instructions are ill formed on a PPE 42 (30_encoding.md R171) -/
theorem test_ill_formed_variant :
    [Instr.mulli .r3 .r4 1, .mullw .r3 .r4 .r5 false false, .rldicl .d3 .d5 0 0 false, .rldicr .d3 .d5 0 0 false,
      .rldimi .d3 .d5 0 0 false, .slvd .d3 .d5 .r7 false, .srvd .d3 .d5 .r7 false, .lsku .r1 .r1 1, .lcxu .r1 .r1 11,
      .stsku .r1 .r1 8191, .stcxu .r1 .r1 8181, .tw 5 11 12 true].all
        (fun i => i.wellFormed .ppe42x && !i.wellFormed .ppe42) = true := by decide

/-- B16, B17, B24: BI above 3, and BO[2] = 0 of `bcctr` (30_encoding.md R178) -/
theorem test_ill_formed_branches :
    [Instr.bc 12 4 2 false false, .bc 20 31 2 false false, .bclr 20 4 false, .bcctr 20 4 false, .bcctr 16 0 false].all
        (fun i => !i.wellFormed .ppe42x) = true := by decide

/-- M5, M6, M24, M36, M41: updates of GPR 0, and of the target (46_load_store.md R352) -/
theorem test_ill_formed_updates :
    [Instr.lbzu .r3 .r3 1, .lbzu .r3 .r0 1, .lhzu .r4 .r4 1, .lhzu .r3 .r0 1, .lwzu .r5 .r5 1, .lwzu .r3 .r0 1, .lvdu .d3 .r4 8,
      .lvdu .d3 .r3 8, .lvdu .d3 .r0 8, .stbu .r3 .r0 4, .sthu .r3 .r0 4, .stwu .r3 .r0 4, .stvdu .d5 .r0 8].all
        (fun i => !i.wellFormed .ppe42x) = true := by decide

/-- K7 to K10, K18, K22, K24: displacements and registers of the stack instructions (47_stack.md R409) -/
theorem test_ill_formed_stack :
    [Instr.lsku .r1 .r1 0, .lsku .r1 .r1 8191, .lsku .r3 .r1 3, .lsku .r0 .r0 3, .lcxu .r1 .r1 10, .lcxu .r1 .r1 8181,
      .lcxu .r3 .r1 11, .lcxu .r0 .r0 11, .stsku .r1 .r1 1, .stsku .r1 .r1 0, .stsku .r3 .r1 8191, .stsku .r0 .r0 8191,
      .stcxu .r1 .r1 8182, .stcxu .r1 .r1 11, .stcxu .r3 .r1 8181, .stcxu .r0 .r0 8181].all
        (fun i => !i.wellFormed .ppe42x) = true := by decide

/-- Y33, Y34, Y40, Y41, Y58, Y59: SPR numbers, read-only SPRs, and `tw` (49_system.md R446, R448, R449) -/
theorem test_ill_formed_system :
    [Instr.mfspr .r3 268, .mfspr .r3 256, .mtspr 268 .r3, .mtspr 63 .r3, .mtspr 286 .r3, .mtspr 287 .r3, .tw 4 3 4 false,
      .tw 31 11 4 false, .tw 0 3 12 false].all (fun i => !i.wellFormed .ppe42x) = true := by decide

/-- What the host's table word decodes to -/
theorem test_decodeTableWord :
    decodeTableWord 32 0x7C642A14 = some (.add .r3 .r4 .r5 false false) ∧ decodeTableWord 32 0 = none := by decide

/-! ### Interrupts, timers, debug, reset -/

/-- X2: an illegal word with UIE = 0, ME = 1 is a machine check with MCS 100 at x'020' on a PPE 42X -/
theorem test_promotion :
    ranTo 0 { cpu with iar := 0x2000, msr := 0x9000, isr := 0x80 }
      (fun t => t.msr = 0 && t.srr0 = 0x2000 && t.srr1 = 0x9000 && t.isr = 4 && t.iar = 0x20) = true := by decide

/-- X4: with UIE = 0, ME = 0 the core halts at the program vector -/
theorem test_halting_promotion :
    ranTo 0 { cpu with iar := 0x2000, msr := 0x8000, isr := 0x80 }
      (fun t => t.msr = 0 && t.srr1 = 0x8000 && t.isr = 0 && t.iar = 0xE0 && t.halted && t.xsr.hc = 3) = true := by decide

/-- X8: of four pending asynchronous interrupts the watchdog's is taken -/
theorem test_asynchronous_priority :
    ranTo 0x38600001
      { cpu with iar := 0x2000, msr := 0x19000, pins := { extIntr := true }, tcr := 0x0C800000, tsr := 0x4C000000 }
      (fun t => t.msr = 0x1000 && t.srr0 = 0x2000 && t.srr1 = 0x19000 && t.iar = 0x140) = true := by decide

/-- A step by a stimulus ends in a state with a property. -/
def stimulatedTo (e : Stimulus) (s : State) (p : State → Bool) : Bool :=
  match step { s with stimuli := [e] } with
  | .next t => p t
  | _ => false

/-- T1, the third cycle -/
theorem test_decrementer :
    stimulatedTo (.cycle 0 false) { cpu with dec := 0 } (fun t => t.dec = 0xFFFFFFFF && t.tsr = 0x08000000) = true := by decide

/-- T8, the third event -/
theorem test_watchdog_reset :
    stimulatedTo (.cycle 4 false) { cpu with dec := 9, tsr := 0xC0000000, tcr := 0x68000000, dbcr := 0x01000000 }
      (fun t => t.tsr = 0xE0000000 && t.tcr = 0x48000000 && t.out.watchdogTimeout && t.resetting = some ⟨.hard, false, false⟩) =
        true := by decide

/-- G4: a running core accepts no single-step command -/
theorem test_xir_invalid :
    stimulatedTo (.xirWrite .xcrCtr 0x3000000000000000) cpu (fun t => t.reply = some .invalidAccess) = true := by decide

/-- G8: the write of the IR pair rams its word -/
theorem test_ramming_begins :
    stimulatedTo (.xirWrite .irEdr 0x7CB043A600000000) { cpu with xsr := { hcp := true } }
      (fun t => t.ir = 0x7CB043A6 && t.xsr.rip && t.reply = some .accepted) = true := by decide

/-- Z1: the power-on state read through pair 5 -/
theorem test_power_on :
    stimulatedTo (.xirRead .xsrIar) (State.powerOn Config.default) (fun t => t.reply = some (.data 0x8800000000000000)) = true := by decide

/-- The state after reset is the power-on state after `hreset_req` was active and released (70_reset_and_hazards.md R702, R705) -/
theorem test_reset_from_power_on :
    ([Stimulus.hresetReq true, .hresetReq false, .run].foldl
      (fun s e => match step { s with stimuli := [e] } with
        | .next t => t
        | _ => s) (State.powerOn Config.default)) = State.reset := by decide

/-- A core whose memory answers every data access with an error. -/
def answeringError : State :=
  { cpu with sys := { map := [{ base := 0, size := 0x100000000, load := .every .error, store := .every .error }] } }

/-- R702: a force halt under an active `hreset_req`, a resume, and the core is in the reset again -/
theorem test_hreset_level_after_force_halt :
    ([Stimulus.hresetReq true, .xirWrite .xcrCtr 0x7000000000000000, .xirWrite .xcrCtr 0x2000000000000000, .run].foldl
      (fun s e => match step { s with stimuli := [e] } with
        | .next t => t
        | _ => s) cpu).resetting = some ⟨.hard, true, false⟩ := by decide

/-- R113: a byte store to a space that takes word stores only is rejected, a word store there is done -/
theorem test_word_only_space :
    let s := { cpu with sys := { map := [{ base := 0, size := 0x4000, store := { byte := .align } }] } }
    ranTo 0x98640002 s (fun t => t.iar = 0xC0 && t.edr = 2 && bitAt t.isr 25) = true ∧
    ranTo 0x90640004 s (fun t => t.iar = 0x1004) = true := by decide

/-- A core with a data cache that gives one answer to every cache operation and query. -/
def caching (r : DataReply) : State :=
  { cpu with
    cfg := { cpu.cfg with hasDcache := true }
    sys := { map := [{ base := 0, size := 0x100000000, cacheOps := ⟨r, r, r, r⟩ }], queries := [⟨0, r, 0x1001⟩] } }

/-- C2: an error answer to `dcbf` where there is a data cache is a load-type machine check; without one `dcbf` only advances (R420) -/
theorem test_dcbf_error :
    ranTo 0x7C0028AC (caching .error) (fun t => t.isr = 1 && t.iar = 0x20) = true ∧
    ranTo 0x7C0028AC answeringError (fun t => t.iar = 0x1004) = true := by decide

/-- R126, R421, R513: the failed write-back of `dcbf` or `dcbt` is a store-type machine check with EDR the line -/
theorem test_write_back_error :
    ranTo 0x7C0028AC (caching (.writeBack 0x5000)) (fun t => t.isr = 2 && t.edr = 0x5000 && t.iar = 0x20) = true ∧
    ranTo 0x7C042A2C (caching (.writeBack 0x5000)) (fun t => t.isr = 2 && t.edr = 0x5000 && t.srr0 = 0x1000) = true := by decide

/-- R101, R513: a `dcbq` whose query has an error is a load-type machine check and writes no register -/
theorem test_dcbq_error :
    ranTo 0x7C602B2C (caching .error) (fun t => t.isr = 1 && t.iar = 0x20 && t.gpr = cpu.gpr) = true ∧
    ranTo 0x7C602B2C (caching .ok) (fun t => t.iar = 0x1004 && t.reg .r3 = 0x1001) = true := by decide

/-- R405: `lsku` whose second doubleword has an error has loaded the first, and keeps the stack pointer and the LR -/
theorem test_lsku_stops :
    let s := { cpu with
      gpr := { r1 := 0x2FE8 }, lr := 7, mem := [⟨0x2FFF, 5⟩]
      sys := { map := [{ base := 0x2FF0, size := 8, load := .every .error }, { base := 0, size := 0x100000000 }] } }
    ranTo 0xE821001B s (fun t => t.edr = 0x2FF0 && t.isr = 1 && t.gpr = { s.gpr with r31 := 5 } && t.lr = 7) = true := by decide

/-- R160: another assignment of `FCB_ENC` gives the same word another instruction -/
theorem test_other_fcb_codes :
    decode .placeholder 0x04032802 = .ok (.cmpwbc false 0 .r3 .r5 1 false) ∧
    decode ⟨1, 0, 2, 3, 0, 1, 2, 3⟩ 0x04032802 = .ok (.cmplwbc false 0 .r3 .r5 1 false) ∧
    FcbCodes.placeholder.injective = true ∧ FcbCodes.injective ⟨1, 1, 2, 3, 0, 1, 2, 3⟩ = false := by decide

/-- R708: an instance that overrides power-on values -/
theorem test_power_on_override :
    let s := State.powerOn { Config.default with overrides := [.iar 0x103, .msr 0xFFFFFFFF, .gpr .r1 0x2000] }
    s.iar = 0x100 ∧ s.msr = 0x7FFF9DFF ∧ s.gpr = { r1 := 0x2000 } ∧ s.xsr.hcp = true := by decide

/-! ### Witnesses: for every statement with hypotheses, states and operands that meet them -/

/-- The placeholder, and another assignment. -/
theorem witness_DecodeInvertsEncode :
    FcbCodes.placeholder.injective = true ∧ FcbCodes.injective ⟨3, 1, 0, 2, 2, 3, 0, 1⟩ = true := by decide

theorem witness_StepKeepsInvariant : State.reset.Inv ∧ ∃ t, step State.reset = .next t :=
  ⟨by unfold State.Inv; decide, _, rfl⟩

/-- A core that fetches, and one that rams. -/
theorem witness_StepRunsDecodedInstruction :
    (let s := cpu.withFetchWord 32 0x7C642A14;
      s.running ∧ s.fetches ∧ decode s.cfg.fcb (readWord s.mem s.iar) = .ok (.add .r3 .r4 .r5 false false)) ∧
    (let s := { cpu with ir := 0x7C642A14, xsr := { hcp := true, rip := true } };
      s.stimuli = [] ∧ s.resetting = none ∧ s.pins.hresetReq = false ∧ s.pins.haltReq = false ∧ s.xsr.rip = true ∧
        decode s.cfg.fcb s.ir = .ok (.add .r3 .r4 .r5 false false)) := by
  unfold State.running State.fetches; decide

/-- A core that single-steps is running too. -/
theorem witness_running_step :
    { cpu with xsr := { hcp := true, sip := true } }.running := by
  unfold State.running; decide

theorem witness_IllegalInstructionTakesProgramInterrupt :
    (State.reset.running ∧ State.reset.fetches ∧ State.reset.pending = [] ∧
      decode State.reset.cfg.fcb (readWord State.reset.mem State.reset.iar) = .error .unassigned) ∧
    (let s := cpu.withFetchWord 32 0x7D642A14;
      s.running ∧ s.fetches ∧ s.pending = [] ∧ decode s.cfg.fcb (readWord s.mem s.iar) = .error (.undefinedGpr 11)) := by
  unfold State.running State.fetches; decide

theorem witness_IllegalInstructionTakesProgramInterrupt_forms :
    (Instr.lbzu .r3 .r0 1).wellFormed cpu.cfg.variant = false ∧ (Instr.bc 20 4 2 false false).wellFormed cpu.cfg.variant = false ∧
    (Instr.mfspr .r3 268).wellFormed cpu.cfg.variant = false ∧ cpu.pending = [] := by decide

theorem witness_RegistersReadAsWritten : Gpr.r1 ≠ Vdr.d31.high ∧ Gpr.r1 ≠ Vdr.d31.low := by decide

theorem witness_MemoryIsBigEndian : Memory.wf [] = true ∧ Memory.wf [(0, 1), (0xFFFFFFFF, 255)] = true := by decide

theorem witness_variant :
    cpu.cfg.variant = .ppe42x ∧ { cpu with cfg := { cpu.cfg with variant := .ppe42 } }.cfg.variant = .ppe42 := by decide

theorem witness_MultiplyResults : cpu.cfg.variant = .ppe42x := by decide

theorem witness_DoublewordRotateResults : cpu.cfg.variant = .ppe42x := by decide

theorem witness_DoublewordShiftResults : cpu.cfg.variant = .ppe42x := by decide

/-- 0 and -1, which a signed compare and an unsigned one order differently. -/
theorem witness_CompareSetsExactlyOneBit :
    let s := { cpu with gpr := { r4 := 0xFFFFFFFF } }
    (Instr.cmpw .r3 .r4, (0 : Int), (-1 : Int)) ∈ [(Instr.cmpw .r3 .r4, (s.reg .r3).toInt, (s.reg .r4).toInt),
      (.cmplw .r3 .r4, ((s.reg .r3).toNat : Int), ((s.reg .r4).toNat : Int)),
      (.cmpwi .r3 0, (s.reg .r3).toInt, (0 : BitVec 16).toInt),
      (.cmplwi .r3 0, ((s.reg .r3).toNat : Int), ((0 : BitVec 16).toNat : Int))] := by decide

/-- BI 0 and 3, BO with and without its bit 2; the last instruction address. -/
theorem witness_BranchResults :
    aligned cpu.iar = true ∧ aligned (0xFFFFFFFC : Word) = true ∧ (0 : BitVec 5).toNat < 4 ∧ (3 : BitVec 5).toNat < 4 ∧
    (4 : BitVec 5).getMsbD 2 = true ∧ (31 : BitVec 5).getMsbD 2 = true := by decide

theorem witness_FusedCompareResults : aligned cpu.iar = true := by decide

theorem witness_FusedBitResults : aligned cpu.iar = true := by decide

/-- Granted loads of every size, at the first and the last address. -/
theorem witness_LoadResults :
    cpu.grants false (eaD cpu .r0 0) 1 ∧ cpu.grants false (eaX cpu .r0 .r5) 1 ∧ cpu.grants false (eaD cpu .r4 0xFFFF) 2 ∧
    cpu.grants false (eaX cpu .r4 .r5) 2 ∧ cpu.grants false (eaD cpu .r4 0xFFFF) 4 ∧ cpu.grants false (eaX cpu .r4 .r5) 4 ∧
    cpu.grants false (eaD cpu .r4 0xFFFF) 8 ∧ cpu.grants false (eaX cpu .r4 .r5) 8 := by
  unfold State.grants; decide

theorem witness_LoadUpdateResults :
    Gpr.r4 ≠ .r0 ∧ Gpr.r4 ≠ .r3 ∧ Gpr.r4 ≠ Vdr.d5.high ∧ Gpr.r4 ≠ Vdr.d5.low ∧
    cpu.grants false (cpu.reg .r4 + (0xFFFF : BitVec 16).signExtend 32) 1 ∧
    cpu.grants false (cpu.reg .r4 + (0 : BitVec 16).signExtend 32) 2 ∧
    cpu.grants false (cpu.reg .r4 + (0xFFFF : BitVec 16).signExtend 32) 4 ∧
    cpu.grants false (cpu.reg .r4 + (0xFFFF : BitVec 16).signExtend 32) 8 := by
  unfold State.grants; decide

theorem witness_StoreResults :
    Memory.wf cpu.mem = true ∧ cpu.grants true (eaD cpu .r0 0) 1 ∧ cpu.grants true (eaX cpu .r0 .r5) 1 ∧
    cpu.grants true (eaD cpu .r4 0xFFFF) 2 ∧ cpu.grants true (eaX cpu .r4 .r5) 2 ∧ cpu.grants true (eaD cpu .r4 0xFFFF) 4 ∧
    cpu.grants true (eaX cpu .r4 .r5) 4 ∧ cpu.grants true (eaD cpu .r4 0xFFFF) 8 ∧ cpu.grants true (eaX cpu .r4 .r5) 8 := by
  unfold State.grants; decide

theorem witness_StoreUpdateResults :
    Memory.wf cpu.mem = true ∧ Gpr.r4 ≠ .r0 ∧ cpu.grants true (eaU cpu .r4 0xFFFF) 1 ∧ cpu.grants true (eaU cpu .r4 0) 2 ∧
    cpu.grants true (eaU cpu .r4 0xFFFF) 4 ∧ cpu.grants true (eaU cpu .r4 0xFFFF) 8 := by
  unfold State.grants; decide

/-- A core whose memory gives one answer to every data access. -/
def answering (r : DataReply) : State :=
  { cpu with sys := { map := [{ base := 0, size := 0x100000000, load := .every r, store := .every r }] } }

/-- A rejected load and a rejected store, for each answer. -/
theorem witness_RejectedAccessTakesInterrupt :
    [DataReply.dsi, .align, .error, .writeBack 0x5000].all (fun r =>
      memoryRequest (.lwz .r3 .r4 0) (answering r) = some (false, 4, 0) &&
      memoryRequest (.stbu .r3 .r4 0xFFFF) (answering r) = some (true, 1, 0xFFFFFFFF) &&
      (Instr.lwz .r3 .r4 0).wellFormed (answering r).cfg.variant && (Instr.stbu .r3 .r4 0xFFFF).wellFormed (answering r).cfg.variant &&
      (answering r).pending = [] && dacMatch false 0 (answering r) = false && dacMatch true 0xFFFFFFFF (answering r) = false &&
      (answering r).sys.dataReply false 0 4 = r && (answering r).sys.dataReply true 0xFFFFFFFF 1 = r &&
      (answering r).impreciseMode = false) = true := by decide

/-- PPE 42X cores that watch x'3000' with each ACS, one that watches address 0, a PPE 42 core with and without IACE: the condition met at
the boundary of the mask and not met beyond it, for a load, a store and a cache instruction. -/
theorem witness_DataCompareHalts :
    (let s := { cpu with dbcr := 0x000C0000, dacr := 0x3000, gpr := { r4 := 0x3000 } };
      comparedAddress (.lwz .r3 .r4 0) s = some (false, 0x3000) ∧ comparedAddress (.stb .r3 .r4 0) s = some (true, 0x3000) ∧
      comparedAddress (.dcbf .r4 .r5) s = some (true, 0x3000) ∧ comparedAddress (.dcbq .r3 .r4 .r5) s = some (false, 0x3000) ∧
      s.xsr.rip = false ∧ dacMatch false 0x3000 s = true ∧ dacMatch true 0x3000 s = true ∧ dacMatch true 0x3001 s = false) ∧
    ([(0x40, 3), (0x80, 7), (0xC0, 31)].all fun (acs, low) =>
      let s := { cpu with dbcr := 0x000C0000 ||| acs, dacr := 0x3000 }
      dacMatch false (0x3000 + low) s && !dacMatch false (0x3001 + low) s) = true ∧
    (let s := { cpu with dbcr := 0x00000004, dacr := 0x5000 };
      comparedAddress (.lwz .r3 .r0 0) s = some (false, 0) ∧ s.xsr.rip = false ∧ dacMatch false 0 s = true ∧
        dacMatch false 4 s = false) ∧
    (let s := { cpu with cfg := { cpu.cfg with variant := .ppe42 }, dbcr := 0x000C0000, dacr := 0x3000 };
      dacMatch false 0x3000 s = true ∧ dacMatch false 0x3000 { s with dbcr := 0x008C0000 } = false) ∧
    (Instr.lwz .r3 .r4 0).wellFormed .ppe42x = true ∧ (Instr.stb .r3 .r4 0).wellFormed .ppe42x = true := by decide

/-- A load and a store with codes 0, 1 and 7 masked, 1 and 7 not masked; and an instance in imprecise mode. -/
theorem witness_SibReturnCodes :
    [(0, cpu.msr), (1, 0x7F011000), (7, 0x01011000), (1, cpu.msr), (7, cpu.msr), (7, 0x00011100)].all (fun (c, m) =>
      let s := { answering (.sib c) with msr := m, cfg := { cpu.cfg with imprecise := true } }
      memoryRequest (.lwz .r3 .r4 0) s = some (false, 4, 0) && memoryRequest (.stbu .r3 .r4 0xFFFF) s = some (true, 1, 0xFFFFFFFF) &&
        s.pending = [] && dacMatch false 0 s = false && dacMatch true 0xFFFFFFFF s = false && Memory.wf s.mem &&
        s.sys.dataReply false 0 4 = .sib c && s.sys.dataReply true 0xFFFFFFFF 1 = .sib c &&
        s.impreciseMode = decide (m = 0x00011100)) = true ∧
    (Instr.stbu .r3 .r4 0xFFFF).wellFormed .ppe42x = true ∧
    bitAt 0x7F011000 1 = true ∧ bitAt 0x01011000 7 = true ∧ bitAt cpu.msr 1 = false ∧ bitAt cpu.msr 7 = false := by decide

/-- In imprecise mode: a store whose error is to be reported later and one granted, a load that provokes a failed write-back; errors pending
at and below the bound, and with an instance that reports them at accesses; a data storage answer while errors are pending. -/
theorem witness_ImpreciseStoreErrors :
    (let s := { answering .error with msr := 0x00011100, cfg := { cpu.cfg with imprecise := true, maxStores := 2 } };
      memoryRequest (.stw .r3 .r4 8) s = some (true, 4, 8) ∧ (Instr.stw .r3 .r4 8).wellFormed s.cfg.variant = true ∧
      Memory.wf s.mem = true ∧ dacMatch true 8 s = false ∧
      s.reportsNow = false ∧ s.rejected true true 8 .error = none ∧ s.masks .error = false ∧
      s.replyError true 8 .error = some (true, 8) ∧ { s with pending := [4] }.reportsNow = false ∧
      { s with pending := [4, 8] }.reportsNow = true ∧
      { s with pending := [4], cfg := { s.cfg with reportAtAccess := true } }.reportsNow = true ∧
      { s with pending := [4] }.rejected false false 8 .error ≠ none ∧
      s.rejected true true 8 .ok = none ∧ s.replyError true 8 .ok = none ∧
      s.rejected false false 8 (.writeBack 0x5000) = none ∧ s.masks (.writeBack 0x5000) = false) ∧
    (let s := { answering .dsi with pending := [4], cfg := { cpu.cfg with maxStores := 2 } };
      s.reportsNow = false ∧ s.sys.dataReply false 8 4 = .dsi ∧ s.rejected false false 8 .dsi ≠ none ∧
      memoryRequest (.lwz .r3 .r4 8) s = some (false, 4, 8)) := by decide

/-- DD 1, 2, 3 and 4095. -/
theorem witness_StackPopResult :
    let s := { cpu with gpr := { r1 := 0x2FF8 } }
    s.cfg.variant = .ppe42x ∧ Gpr.r1 ≠ .r0 ∧ (s.reg .r1).toNat % 8 = 0 ∧
    [(1 : BitVec 13), 2, 3, 4095].all (fun dd =>
      let ea := s.reg .r1 + BitVec.ofNat 32 (dd.toNat * 8)
      1 ≤ dd.toNat && dd.toNat ≤ 4095 && s.sys.dataReply false (ea + 4) 4 = .ok && dacMatch false (ea + 4) s = false &&
        s.sys.dataReply false (ea - 8) 8 = .ok && dacMatch false (ea - 8) s = false &&
        s.sys.dataReply false (ea - 16) 8 = .ok && dacMatch false (ea - 16) s = false && s.reportsNow = false) = true := by decide

/-- DD 11 and 4095. -/
theorem witness_ContextPopResult :
    let s := { cpu with gpr := { r1 := 0x2FA8 } }
    s.cfg.variant = .ppe42x ∧ Gpr.r1 ≠ .r0 ∧ (s.reg .r1).toNat % 8 = 0 ∧
    [(11 : BitVec 13), 4095].all (fun dd =>
      let ea := s.reg .r1 + BitVec.ofNat 32 (dd.toNat * 8)
      11 ≤ dd.toNat && dd.toNat ≤ 4095 && s.sys.dataReply false (ea + 4) 4 = .ok && dacMatch false (ea + 4) s = false &&
        s.reportsNow = false && (List.range 11).all (fun k =>
          s.sys.dataReply false (ea - BitVec.ofNat 32 (8 * k)) 8 = .ok && dacMatch false (ea - BitVec.ofNat 32 (8 * k)) s = false)) =
      true := by decide

/-- Frames of 1, 2, 3 and 4096 doublewords. -/
theorem witness_StackPushResult :
    let s := { cpu with gpr := { r1 := 0x9000 } }
    s.cfg.variant = .ppe42x ∧ Gpr.r1 ≠ .r0 ∧ (s.reg .r1).toNat % 8 = 0 ∧ Memory.wf s.mem = true ∧ s.pending = [] ∧
    [(8191 : BitVec 13), 8190, 8189, 4096].all (fun dd =>
      let sp := s.reg .r1
      let ea := sp - BitVec.ofNat 32 (8 * (8192 - dd.toNat))
      4096 ≤ dd.toNat && s.reportsNow = false && [(sp + 4, 4), (sp - 8, 8), (sp - 16, 8), (ea, 4)].all (fun (a, n) =>
        s.sys.dataReply true a n = .ok && dacMatch true a s = false)) = true := by decide

/-- Frames of 11 and 4096 doublewords. -/
theorem witness_ContextPushResult :
    let s := { cpu with gpr := { r1 := 0x9000 } }
    s.cfg.variant = .ppe42x ∧ Gpr.r1 ≠ .r0 ∧ (s.reg .r1).toNat % 8 = 0 ∧ Memory.wf s.mem = true ∧ s.pending = [] ∧
    [(8181 : BitVec 13), 4096].all (fun dd =>
      let sp := s.reg .r1
      let ea := sp - BitVec.ofNat 32 (8 * (8192 - dd.toNat))
      4096 ≤ dd.toNat && 11 ≤ 8192 - dd.toNat && s.reportsNow = false &&
        ((sp + 4, 4) :: (ea, 4) :: (List.range 11).map (fun j => (sp - BitVec.ofNat 32 (8 * j), 8))).all (fun (a, n) =>
          s.sys.dataReply true a n = .ok && dacMatch true a s = false)) = true := by decide

theorem witness_MisalignedStackTakesAlignment :
    let s := { cpu with gpr := { r1 := 0x2FEC } }
    [Instr.lsku .r1 .r1 11, .lcxu .r1 .r1 11].all (fun i => i.wellFormed s.cfg.variant) = true ∧
    [Instr.stsku .r1 .r1 4096, .stcxu .r1 .r1 4096].all (fun i => i.wellFormed s.cfg.variant) = true ∧
    (s.reg .r1).toNat % 8 ≠ 0 ∧ s.pending = [] := by decide

/-- Pops of 2, 3 and 11 doublewords, stopped at the first load, the one after the first doubleword, and the LR; with an error answer there,
and with a data compare. -/
theorem witness_StackPopStops :
    let s := { cpu with gpr := { r1 := 0x2FE8 } }
    let at' (a : Word) (r : DataReply) : State :=
      { s with sys := { map := [{ base := a, size := 4, load := .every r }, { base := 0, size := 0x100000000 }] } }
    (s.reg .r1).toNat % 8 = 0 ∧ Gpr.r1 ≠ .r0 ∧
    ([(2, 1, 0), (3, 2, 1), (3, 2, 2), (11, 10, 0), (11, 10, 10)].all fun ((dd, n, k) : Nat × Nat × Nat) =>
      let ea := s.reg .r1 + BitVec.ofNat 32 (dd * 8)
      let a := if k < n then ea - BitVec.ofNat 32 (8 * (k + 1)) else ea + 4
      let t := at' a .error
      let u := { s with dbcr := 0x00080000, dacr := a }
      (Instr.lsku .r1 .r1 (BitVec.ofNat 13 dd)).wellFormed s.cfg.variant && k ≤ n &&
        t.sys.dataReply false a (if k < n then 8 else 4) = .error && dacMatch false a t = false && t.reportsNow = false &&
        dacMatch false a u && !u.xsr.rip && (t.rejected false false a .error).isSome &&
        (List.range k).all (fun j =>
          let b := ea - BitVec.ofNat 32 (8 * (j + 1))
          t.sys.dataReply false b 8 = .ok && dacMatch false b t = false && dacMatch false b u = false)) = true := by decide

/-- Pushes of 1, 3 and 11 doublewords, stopped at the LR, the first doubleword and the back pointer; and in imprecise mode, with errors
pending and with an error of its own. -/
theorem witness_StackPushStops :
    let s := { cpu with gpr := { r1 := 0x9000 } }
    let sp := s.reg .r1
    let at' (a : Word) (r : DataReply) : State :=
      { s with sys := { map := [{ base := a, size := 4, store := .every r }, { base := 0, size := 0x100000000 }] } }
    (sp.toNat % 8 = 0 ∧ Gpr.r1 ≠ .r0 ∧ Memory.wf s.mem = true) ∧
    ([(1, 0, 0), (1, 0, 1), (3, 2, 1), (3, 2, 3), (11, 10, 0), (11, 10, 11)].all fun ((size, n, k) : Nat × Nat × Nat) =>
      let ea := sp - BitVec.ofNat 32 (8 * size)
      let access (k : Nat) : Word × Nat :=
        if k = 0 then (sp + 4, 4) else if k ≤ n then (sp - BitVec.ofNat 32 (8 * k), 8) else (ea, 4)
      let t := at' (access k).1 .error
      let u := { s with dbcr := 0x00040000, dacr := (access k).1 }
      let v := { t with msr := 0x00011100, cfg := { cpu.cfg with imprecise := true } }
      (Instr.stsku .r1 .r1 (BitVec.ofNat 13 (8192 - size))).wellFormed s.cfg.variant && k ≤ n + 1 &&
        t.sys.dataReply true (access k).1 (access k).2 = .error && (t.rejected true true (access k).1 .error).isSome &&
        dacMatch true (access k).1 u && !u.xsr.rip && v.impreciseMode && s.reportsNow = false &&
        (List.range (n + 2)).all (fun j => dacMatch true (access j).1 t = false && (j = k ||
          (t.sys.dataReply true (access j).1 (access j).2 = .ok && dacMatch true (access j).1 u = false)))) = true := by decide

/-- Every answer, without a data cache and with one that gives it. -/
theorem witness_CacheOperationsResults :
    [DataReply.ok, .dsi, .align, .error, .writeBack 0x5000, .sib 0, .sib 3].all (fun r =>
      [answering r, caching r].all (fun s => dacMatch true 0 s = false && dacMatch false 0 s = false &&
        s.reportsNow = false && s.pending = [] && eaX s .r0 .r5 = 0) &&
      (answering r).sys.dataReply true 0 1 = r && (caching r).sys.dataReply true 0 1 = .ok &&
      ((caching r).sys.regionAt 0).map (fun q => q.cacheOps.touch) = some r &&
      (caching r).sys.queries.find? (fun q => decide (q.qa = (0 : Word))) = some ⟨0, r, 0x1001⟩) = true := by decide

/-- With a data cache: an answer that rejects and one to report later, a SIB code masked, and a query address that is not valid;
without one, errors to report. -/
theorem witness_CacheOperationsResults_cached :
    let s := { caching .error with msr := 0x7F011100, cfg := { (caching .error).cfg with imprecise := true } }
    s.reportsNow = false ∧ s.rejected true true 0 .error = none ∧ (s.rejected false false 0 .error).isSome = true ∧
    s.masks (.sib 3) = true ∧ s.rejected false false 0 (.sib 3) = none ∧ s.masks .error = false ∧
    s.sys.queries.map (fun q => q.qa) = [0] ∧
    (let t := { cpu with pending := [4] };
      t.cfg.hasDcache = false ∧ t.reportsNow = true ∧ dacMatch false (eaX t .r0 .r5) t = false) := by decide

/-- A region that emulates `dcbz`; one that does not; the latter cached; a rejected store, a masked SIB code, an error to report later;
and no region at all. -/
theorem witness_BlockZeroResults :
    let plain : Region := { base := 0, size := 0x100000000, dcbz := false }
    let s := { cpu with sys := { map := [plain] } }
    let u := { cpu with cfg := { cpu.cfg with hasDcache := true }, sys := { map := [{ plain with cacheable := true }] } }
    let v := { cpu with msr := 0x7F011100, cfg := { cpu.cfg with imprecise := true } }
    let a := eaX cpu .r4 .r5
    Memory.wf cpu.mem = true ∧ dacMatch true a cpu = false ∧ cpu.reportsNow = false ∧
    cpu.sys.regionAt a = some { base := 0, size := 0x100000000 } ∧ cpu.sys.dataReply true a 1 = .ok ∧
    cpu.rejected true true a .ok = none ∧ cpu.masks .ok = false ∧ cpu.replyError true a .ok = none ∧
    s.sys.regionAt a = some plain ∧ s.cfg.hasDcache = false ∧ (s.rejected true true a .align).isSome = true ∧
    u.sys.regionAt a = some { plain with cacheable := true } ∧ u.cfg.hasDcache = true ∧
    (answering .dsi).sys.dataReply true a 1 = .dsi ∧ (cpu.rejected true true a .error).isSome = true ∧
    v.masks (.sib 3) = true ∧ v.rejected true true a (.sib 3) = none ∧ v.rejected true true a .error = none ∧
    v.masks .error = false ∧ v.replyError true a .error = some (true, a) ∧
    (let w := { cpu with sys := { map := [] } };
      w.sys.regionAt a = none ∧ dacMatch true a w = false ∧ (w.rejected true true a .dsi).isSome = true) := by decide

/-- A core with an imprecise store error pending. -/
def withError : State := { cpu with pending := [0x4000, 0x5000] }

theorem witness_StatusMoveResults :
    cpu.pending = [] ∧ { withError with xsr := { hcp := true, rip := true } }.xsr.rip = true := by decide

theorem witness_SprReadResults :
    (0 : BitVec 10) ∉ ([1, 8, 9, 22, 26, 27, 61, 62, 63, 272, 286, 287, 308, 316, 336, 340] : List (BitVec 10)) ∧
    (1023 : BitVec 10) ∉ ([1, 8, 9, 22, 26, 27, 61, 62, 63, 272, 286, 287, 308, 316, 336, 340] : List (BitVec 10)) ∧
    cpu.pending = [] := by decide

theorem witness_SprWriteResults : bits ({ cpu with gpr := { r3 := 0xCFFFFFFF } }.reg .r3) 2 2 = 0 := by decide

theorem witness_DebugControlResetResults :
    bits ({ cpu with gpr := { r3 := 0x31000000 } }.reg .r3) 2 2 = 3 ∧ bits ({ cpu with gpr := { r3 := 0x10800000 } }.reg .r3) 2 2 = 1 ∧
    bits ({ cpu with gpr := { r3 := 0x20800000 } }.reg .r3) 2 2 = 2 ∧ cpu.resetting = none := by decide

theorem witness_ReturnFromInterruptResult :
    cpu.pending = [] ∧ { withError with xsr := { hcp := true, rip := true } }.xsr.rip = true := by decide

/-- A tag; a mark and a trap with defined registers, DBCR[TRAP] 1 and 0; an undefined register; a conditional trap. -/
theorem witness_TrapAndMarkResults :
    (decide (cpu.cfg.variant = .ppe42x) && true) = true ∧ (decide (cpu.cfg.variant = .ppe42x) && false) = false ∧
    (decide (({ cpu with cfg := { cpu.cfg with variant := .ppe42 } } : State).cfg.variant = .ppe42x) && true) = false ∧
    (gprNumbers.contains 0 && gprNumbers.contains 31) = true ∧ (gprNumbers.contains 11 && gprNumbers.contains 4) = false ∧
    bitAt ({ cpu with dbcr := 0x01000000 } : State).dbcr 7 = true ∧ bitAt cpu.dbcr 7 = false ∧ cpu.pending = [] ∧
    ((1 : BitVec 5) ≠ 0 ∧ (1 : BitVec 5) ≠ 31) ∧ ((30 : BitVec 5) ≠ 0 ∧ (30 : BitVec 5) ≠ 31) := by decide

theorem witness_UnmaskableInterruptDispatch : cpu.pending = [] := by decide

/-- Running cores with MSR[EE] 1 and one source each: watchdog, external, fixed interval, decrementer. -/
theorem witness_AsynchronousInterruptTaken :
    let cores : List State :=
      [{ cpu with msr := 0x19000, tcr := 0x08000000, tsr := 0x40000000 }, { cpu with msr := 0x19000, pins := { extIntr := true } },
        { cpu with msr := 0x19000, tcr := 0x00800000, tsr := 0x04000000 },
        { cpu with msr := 0x19000, tcr := 0x04000000, tsr := 0x08000000 }]
    (∀ s ∈ cores, s.running ∧ s.pending = [] ∧ bitAt s.msr 16 = true) ∧
    cores.map (fun s => (bitAt s.tcr 4 && bitAt s.tsr 1, s.pins.extIntr, bitAt s.tcr 8 && bitAt s.tsr 5,
      bitAt s.tcr 5 && bitAt s.tsr 4)) =
      [(true, false, false, false), (false, true, false, false), (false, false, true, false), (false, false, false, true)] := by
  unfold State.running; decide

/-- A waiting core; PPE 42X cores whose IAR meets the compare at the boundary of each mask and not beyond it, and one at address 0; a PPE 42
core that compares every bit. -/
theorem witness_WaitAndInstructionCompare :
    (let s := { cpu with msr := 0x00051000 };
      s.running ∧ s.asyncTaken = none ∧ s.we = true) ∧
    (let s := { cpu with dbcr := 0x00800000, dacr := 0x1000 };
      s.running ∧ s.asyncTaken = none ∧ s.we = false ∧ iacMatch s = true ∧ iacMatch { s with iar := 0x1004 } = false) ∧
    ([(0x40, 3), (0x80, 7), (0xC0, 31)].all fun (acs, low) =>
      let s := { cpu with dbcr := 0x00800000 ||| acs, dacr := 0x1000 + low }
      iacMatch s && !iacMatch { s with dacr := 0x1001 + low }) = true ∧
    (let s := { cpu with dbcr := 0x00000004, iar := 0 };
      s.running ∧ iacMatch s = true ∧ iacMatch { s with iar := 4 } = false) ∧
    (let s := { cpu with cfg := { cpu.cfg with variant := .ppe42 }, dbcr := 0x00800000, dacr := 0x1000 };
      s.running ∧ iacMatch s = true ∧ iacMatch { s with dacr := 0x1001 } = false) := by
  unfold State.running; decide

/-- A core whose memory gives one answer to every fetch. -/
def fetching (r : FetchReply) : State :=
  { cpu with sys := { map := [{ base := 0, size := 0x100000000, fetch := r }] } }

theorem witness_RejectedFetchTakesInterrupt :
    [FetchReply.isi, .error, .sib 0, .sib 1, .sib 7].all (fun r =>
      let s := fetching r
      s.stimuli = [] && s.resetting = none && s.pins.hresetReq = false && s.pins.haltReq = false && s.xsr.rip = false && s.xsr.hcp = false &&
        s.asyncTaken = none && s.we = false && iacMatch s = false && s.pending = [] && s.sys.fetchReply s.iar = r) = true := by decide

theorem witness_ImpreciseErrorsReported :
    withError.pending ≠ [] ∧ Instr.mfmsr .r3 ∈ [Instr.sync, .mfmsr .r3, .mtmsr .r3, .rfi] ∧ withError.xsr.rip = false ∧
    ({ cpu with pending := [0x4000] } : State).pending ≠ [] ∧
    (let s := { withError with msr := 0x19000, pins := { extIntr := true } }; s.running ∧ s.asyncTaken ≠ none) := by
  unfold State.running; decide

theorem witness_TimerCycleResults : cpu.timersFrozen = false ∧ cpu.statusFrozen = false := by decide

/-- TSR[ENW, WIS] 00, 10 and 11, and each TCR[WRC]. -/
theorem witness_WatchdogEventActions :
    ([0x00000000, 0x80000000, 0xC0000000] : List Word).map (fun w => (bitAt w 0, bitAt w 1)) =
      [(false, false), (true, false), (true, true)] ∧
    ([0x00000000, 0x10000000, 0x20000000, 0x30000000] : List Word).map (fun w => bits w 2 2) = [0, 1, 2, 3] := by decide

theorem witness_TimerCycleResults_frozen :
    ({ cpu with xsr := { hcp := true } } : State).xsr.trh = false ∧
    (let s := { cpu with dbcr := 1, xsr := { hcp := true, trh := true, hc := 2 } };
      s.xsr.hcp = true ∧ s.cfg.variant = .ppe42x ∧ bitAt s.dbcr 31 = true ∧ 1 < s.xsr.hc.toNat) := by decide

/-- Timers that run while their status is frozen. -/
theorem witness_TimerCycleResults_status_frozen :
    let s := { cpu with dbcr := 2, xsr := { hcp := true, trh := true, hc := 2 } }
    s.timersFrozen = false ∧ s.cfg.variant = .ppe42x ∧ bitAt s.dbcr 30 = true ∧ 1 < s.xsr.hc.toNat := by decide

theorem witness_XirReadsHaveNoSideEffect :
    ({ cpu with stimuli := [.xirRead .xsrIar] } : State).stimuli = .xirRead .xsrIar :: [] ∧
    ({ cpu with stimuli := [.xirReadGprs .dx] } : State).stimuli = .xirReadGprs .dx :: [] := by decide

/-- A PPE 42X whose GPRs are shown, and a PPE 42. -/
theorem witness_XirReadResults :
    (xirReadGprPair .dx { cpu with cfg := { cpu.cfg with xirGprAccess := true } }).isSome = true ∧
    xirReadPair .xcrCtr { cpu with cfg := { cpu.cfg with variant := .ppe42 } } = none := by decide

/-- A halted core, on which pairs 1 to 5 may be written, and a running one. -/
theorem witness_XirWriteResults :
    ({ cpu with xsr := { hcp := true } } : State).halted = true ∧ cpu.halted = false := by decide

/-- A halted core, and a running one. -/
theorem witness_XirAccessAcceptance :
    ({ cpu with xsr := { hcp := true } } : State).halted = true ∧ cpu.halted = false := by decide

/-- Every command, and no reset in progress. -/
theorem witness_XcrCommandResults :
    (List.range 8).all (fun c => ((BitVec.ofNat 64 (c * 2 ^ 60)).extractLsb' 60 3).toNat = c) = true ∧ cpu.resetting = none := by
  decide

/-- A reset to be done; a halted core with `hreset_req` active and no reset in progress; a soft reset when `hreset_req` is active. -/
theorem witness_ResetSequenceResult :
    (let s := { cpu with resetting := some ⟨.hard, true, false⟩ };
      s.resetting = some ⟨.hard, true, false⟩ ∧ (⟨.hard, true, false⟩ : ResetState).applied = false ∧ s.stimuli = [] ∧
      s.pins.hresetReq = false ∧ s.sys.resetAck = true) ∧
    (let s := { cpu with pins := { hresetReq := true }, xsr := { hcp := true } };
      s.stimuli = [] ∧ s.pins.hresetReq = true ∧ s.resetting = none) ∧
    (let s := { cpu with pins := { hresetReq := true }, resetting := some ⟨.soft, false, true⟩ };
      s.stimuli = [] ∧ s.pins.hresetReq = true ∧ s.resetting = some ⟨.soft, false, true⟩) := by decide

/-- A halted core; a change of `halt_req`; its level at a running core and at one that steps; a stepped and a rammed instruction. -/
theorem witness_HaltedStateResults :
    (let s := { cpu with xsr := { hcp := true } };
      s.halted = true ∧ s.stimuli = [] ∧ s.pins.hresetReq = false ∧ s.pins.haltReq = false) ∧
    ({ cpu with stimuli := [.haltReq true] } : State).stimuli = .haltReq true :: [] ∧
    (let s := { cpu with pins := { haltReq := true } };
      s.stimuli = [] ∧ s.resetting = none ∧ s.pins.hresetReq = false ∧ s.pins.haltReq = true ∧ s.xsr.rip = false ∧ s.xsr.sip = false) ∧
    (let s := { cpu with xsr := { hcp := true, sip := true } }; let u := { cpu with xsr := { hcp := true, rip := true } };
      s.xsr.hcp = true ∧ s.xsr.sip = true ∧ u.xsr.hcp = true ∧ u.xsr.rip = true ∧ s.resetting = none ∧ u.stimuli = []) := by decide

end Sys2Proof.Tests
end

section
/-! PROOFS. Memory is big-endian (20_memory.md R103): a store is a fill with the bytes of its value, a load the sum of its bytes. -/

namespace Sys2Proof.Machine

/-! ### Bytes of words and doublewords -/

/-- A byte of the low word is that byte of the doubleword. -/
theorem bits_dwordLo (v : Dword) (a : Nat) (ha : a ≤ 24) : bits (dwordLo v) a 8 = (v >>> (24 - a)).setWidth 8 := by
  ext i hi
  have hpos : 32 - a - 8 + i = 24 - a + i := by omega
  simp [bits, dwordLo, hpos]

/-- A byte of the high word is the byte of the doubleword 32 bits further up. -/
theorem bits_dwordHi (v : Dword) (a : Nat) (ha : a ≤ 24) : bits (dwordHi v) a 8 = (v >>> (56 - a)).setWidth 8 := by
  ext i hi
  have hlow : 32 - a - 8 + i < 32 := by omega
  have hpos : 32 + (32 - a - 8 + i) = 56 - a + i := by omega
  simp [bits, dwordHi, hlow, hpos]

theorem append_toNat {n k : Nat} (x : BitVec n) (y : BitVec k) : (x ++ y).toNat = x.toNat * 2 ^ k + y.toNat := by
  rw [BitVec.toNat_append, ← Nat.shiftLeft_add_eq_or_of_lt y.isLt, Nat.shiftLeft_eq]

theorem wordOfBytes_eq_append (b0 b1 b2 b3 : Byte) : wordOfBytes b0 b1 b2 b3 = b0 ++ b1 ++ b2 ++ b3 := by
  rw [← BitVec.setWidth_eq (b0 ++ b1 ++ b2 ++ b3), BitVec.setWidth_append_append_append_eq_shiftLeft_setWidth_or]
  simp [wordOfBytes, place]

theorem wordOfBytes_toNat (b0 b1 b2 b3 : Byte) :
    (wordOfBytes b0 b1 b2 b3).toNat = ((b0.toNat * 2 ^ 8 + b1.toNat) * 2 ^ 8 + b2.toNat) * 2 ^ 8 + b3.toNat := by
  rw [wordOfBytes_eq_append, append_toNat, append_toNat, append_toNat]

theorem dwordOf_eq_append (hi lo : Word) : dwordOf hi lo = hi ++ lo :=
  BitVec.setWidth_append_eq_shiftLeft_setWidth_or.symm.trans (BitVec.setWidth_eq _)

theorem dwordOf_toNat (hi lo : Word) : (dwordOf hi lo).toNat = hi.toNat * 2 ^ 32 + lo.toNat := by
  rw [dwordOf_eq_append, append_toNat]

/-! ### Stores -/

/-- Filling writes byte `i` at distance `i`, and no byte beyond; the addresses wrap modulo 2^32 (log 36). -/
theorem readByte_fillBytes (f : Nat → Byte) (m : List Host.Cell) (a b : Word) (n : Nat) (hm : Memory.wf m = true)
    (hn : n ≤ 2 ^ 32) :
    readByte (fillBytes f m a n) b = if (b - a).toNat < n then f (b - a).toNat else readByte m b := by
  induction n with
  | zero => rfl
  | succ n ih =>
    have hlast : b = a + BitVec.ofNat 32 n ↔ (b - a).toNat = n := by bv_omega
    simp only [fillBytes, readByte_writeByte _ _ _ _ (fillBytes_wf f m a n hm), ih (by omega), hlast]
    generalize (b - a).toNat = d
    rcases lt_trichotomy d n with hlt | rfl | hgt
    · simp [hlt.ne, hlt, hlt.le]
    · simp
    · simp [hgt.ne', hgt.not_gt, hgt.not_ge]

/-- A store of any width fills its bytes with those of the value, the most significant first. -/
theorem writeMem_eq_fillBytes (w : Width) (m : List Host.Cell) (a : Word) (v : Dword) :
    writeMem w m a v = fillBytes (byteOf v w.bytes) m a w.bytes := by
  cases w <;>
    simp [writeMem, writeWord, fillBytes, Width.bytes, bits_dwordLo, bits_dwordHi, byteOf, BitVec.add_assoc]

theorem writeMem_storedAt (w : Width) (m : List Host.Cell) (a : Word) (v : Dword) (hm : Memory.wf m = true) :
    storedAt m (writeMem w m a v) a w.bytes v := by
  have hbytes : w.bytes ≤ 2 ^ 32 := by cases w <;> decide
  intro b
  rw [writeMem_eq_fillBytes]
  exact readByte_fillBytes _ m a b _ hm hbytes

/-! ### Loads -/

/-- The value of `n + k` bytes is the value of the first `n`, moved up by `k` bytes, plus that of the next `k`. -/
theorem bigEndian_add (m : List Host.Cell) (a : Word) (n k : Nat) :
    bigEndian m a (n + k) = bigEndian m a n * 256 ^ k + bigEndian m (a + BitVec.ofNat 32 n) k := by
  induction k with
  | zero => simp [bigEndian]
  | succ k ih =>
    have haddr : a + BitVec.ofNat 32 (n + k) = a + BitVec.ofNat 32 n + BitVec.ofNat 32 k := by
      rw [BitVec.ofNat_add, BitVec.add_assoc]
    rw [← Nat.add_assoc, bigEndian, bigEndian, ih, haddr]
    ring

theorem readWord_toNat (m : List Host.Cell) (a : Word) : (readWord m a).toNat = bigEndian m a 4 := by
  simp [readWord, wordOfBytes_toNat, bigEndian]

theorem readMem_toNat (w : Width) (m : List Host.Cell) (a : Word) : (readMem w m a).toNat = bigEndian m a w.bytes := by
  cases w with
  | byte => rw [readMem, BitVec.toNat_setWidth_of_le (by decide)]; simp [Width.bytes, bigEndian]
  | half => rw [readMem, BitVec.toNat_setWidth_of_le (by decide), wordOfBytes_toNat]; simp [Width.bytes, bigEndian]
  | word => rw [readMem, BitVec.toNat_setWidth_of_le (by decide), readWord_toNat]; rfl
  | dword =>
    calc (readMem .dword m a).toNat
        = bigEndian m a 4 * 256 ^ 4 + bigEndian m (a + 4) 4 := by
          rw [readMem, dwordOf_toNat, readWord_toNat, readWord_toNat]; norm_num
      _ = bigEndian m a 8 := (bigEndian_add m a 4 4).symm

/-- Settles O9: a store is a fill with the bytes of its value, most significant first; a load or fetch is the sum of its bytes. -/
theorem memoryIsBigEndian : Obligations.MemoryIsBigEndian := by
  intro w m a v
  exact ⟨fun hm => ⟨writeMem_canonical w m a v hm, writeMem_storedAt w m a v hm⟩, readMem_toNat w m a, readWord_toNat m a⟩

end Sys2Proof.Machine
end

section
/-! PROOFS. The compares (43_compare.md R301 to R305): one comparison of exact numbers, read as signed or as unsigned, sets CR0. -/

namespace Sys2Proof.Machine

/-! ### Operands as exact numbers -/

/-- The exact number that a compare takes a word for (10_state.md R42). -/
def compareValue (signed : Bool) (v : Word) : Int := if signed then v.toInt else v.toNat

@[simp] theorem compareValue_signed (v : Word) : compareValue true v = v.toInt := rfl
@[simp] theorem compareValue_unsigned (v : Word) : compareValue false v = v.toNat := rfl

theorem compareValue_inj (signed : Bool) (x y : Word) : compareValue signed x = compareValue signed y ↔ x = y := by
  cases signed with
  | true => exact BitVec.toInt_inj
  | false => exact Int.ofNat_inj.trans BitVec.toNat_inj

theorem sext16_toInt (v : BitVec 16) : (sext16 v).toInt = v.toInt := BitVec.toInt_signExtend_of_le (by decide)

theorem zext16_toNat (v : BitVec 16) : (zext16 v).toNat = v.toNat := BitVec.toNat_setWidth_of_le (by decide)

/-! ### CR0 after a compare -/

/-- The sign of a difference says how its operands compare. -/
theorem signOf_sub (so : Bool) (a b : Int) : signOf so (a - b) = ⟨decide (a < b), decide (b < a), decide (a = b), so⟩ := by
  simp only [signOf, sub_neg, sub_pos, sub_eq_zero]

/-- A compare sets CR0 to the sign of the exact difference of its operands, with a copy of XER[SO]. -/
@[simp] theorem cmpCR0_cr0 (s : State) (x y : Word) (signed : Bool) :
    (cmpCR0 x y signed s).cr0 = signOf s.xer.so (compareValue signed x - compareValue signed y) := by
  simp only [signOf_sub, compareValue_inj]
  cases signed with
  | true => rfl
  | false => simp [cmpCR0]

/-- A number is negative, positive or 0, and only one of them. -/
theorem signOf_exactly_one (so : Bool) (n : Int) :
    (signOf so n).lt.toNat + (signOf so n).gt.toNat + (signOf so n).eq.toNat = 1 := by
  rcases lt_trichotomy n 0 with hneg | rfl | hpos
  · simp [signOf, hneg, hneg.not_gt, hneg.ne]
  · simp [signOf]
  · simp [signOf, hpos, hpos.not_gt, hpos.ne']

/-- Settles O19: each compare is one `cmpCR0` of its operands as exact numbers, and the sign of their difference is exactly one bit. -/
theorem compareSetsExactlyOneBit : Obligations.CompareSetsExactlyOneBit := by
  intro s ra rb imm i a b hmem
  obtain ⟨signed, x, y, hexec, rfl, rfl⟩ : ∃ signed x y, exec i s = .next (cmpCR0 x y signed s).advance ∧
      compareValue signed x = a ∧ compareValue signed y = b := by
    simp only [List.mem_cons, Prod.mk.injEq, List.not_mem_nil, or_false] at hmem
    obtain ⟨rfl, rfl, rfl⟩ | ⟨rfl, rfl, rfl⟩ | ⟨rfl, rfl, rfl⟩ | ⟨rfl, rfl, rfl⟩ := hmem
    · exact ⟨true, s.reg ra, s.reg rb, rfl, rfl, rfl⟩
    · exact ⟨false, s.reg ra, s.reg rb, rfl, rfl, rfl⟩
    · exact ⟨true, s.reg ra, sext16 imm, rfl, rfl, sext16_toInt imm⟩
    · exact ⟨false, s.reg ra, zext16 imm, rfl, rfl, congrArg _ (zext16_toNat imm)⟩
  refine ⟨_, hexec, ?_⟩
  rw [advance_cr0, advance_xer, cmpCR0_cr0, cmpCR0_xer]
  exact ⟨signOf_exactly_one _ _, by simp [signOf_sub]⟩

end Sys2Proof.Machine
end

section
/-! PROOFS. An XIR read gives a reply and leaves the core as it was (62_debug_xir.md R603). -/

namespace Sys2Proof.Machine

/-! ### A step of the environment -/

/-- What every step begins with leaves the IR as it is: `latched`, with the word that is already there. -/
theorem beginStep_eq_latched (s : State) : beginStep s = s.latched s.ir := rfl

/-- The first input queued is what the step is, and the step removes it from the queue (log 9). -/
theorem step_of_stimuli_cons {s : State} {e : Stimulus} {rest : List Stimulus} (h : s.stimuli = e :: rest) :
    step s = stepWith e { s.latched s.ir with stimuli := rest } := by
  have hqueue : (s.latched s.ir).stimuli = e :: rest := h
  simp only [step, nextStep, beginStep_eq_latched, hqueue]

/-! ### What XIR reads do not depend on -/

/-- The datum of a pair is read from registers and pins, not from the inputs still queued. -/
@[simp] theorem xirReadPair_stimuli (p : XirPair) (s : State) (rest : List Stimulus) :
    xirReadPair p { s with stimuli := rest } = xirReadPair p s := by
  cases p <;> rfl

@[simp] theorem xirReadGprPair_stimuli (g : XirGprs) (s : State) (rest : List Stimulus) :
    xirReadGprPair g { s with stimuli := rest } = xirReadGprPair g s := rfl

/-! ### The effect of XIR reads -/

theorem stepWith_xirRead (p : XirPair) (s : State) :
    stepWith (.xirRead p) s = .next { s with reply := some (replyData (xirReadPair p s)) } := rfl

theorem stepWith_xirReadGprs (g : XirGprs) (s : State) :
    stepWith (.xirReadGprs g) s = .next { s with reply := some (replyData (xirReadGprPair g s)) } := rfl

/-- Settles O54: the step is that of the queued read, which sets the reply alone, to a datum that the queue has no part in. -/
theorem xirReadsHaveNoSideEffect : Obligations.XirReadsHaveNoSideEffect := by
  intro s p g rest
  constructor
  · intro hread
    rw [step_of_stimuli_cons hread, stepWith_xirRead, xirReadPair_stimuli]
  · intro hread
    rw [step_of_stimuli_cons hread, stepWith_xirReadGprs, xirReadGprPair_stimuli]

end Sys2Proof.Machine
end

section
/-! PROOFS. Decoding inverts encoding (30_encoding.md R144 to R158): the fields of each form read back, each decoder inverts its form. -/

namespace Sys2Proof

/-! ### Bits of placed fields -/

theorem bitAt_or (v w : Word) (a : Nat) : bitAt (v ||| w) a = (bitAt v a || bitAt w a) := BitVec.getMsbD_or

/-- A bit outside a placed field is 0. -/
theorem bitAt_place_disjoint {n : Nat} (v : BitVec n) (a b : Nat) (ha : a + n ≤ 32) (hb : b + 1 ≤ 32)
    (hd : a + n ≤ b ∨ b + 1 ≤ a) : bitAt (place v a) b = false := by
  rw [bitAt_eq_bits _ _ hb, bits_place_disjoint v a b 1 ha hb hd]; rfl

theorem bitAt_place_ofBool (b : Bool) (a : Nat) (ha : a + 1 ≤ 32) : bitAt (place (ofBool b) a) a = b := by
  rw [bitAt_eq_bits _ _ ha, bits_place_self _ _ ha]; cases b <;> rfl

theorem place_zero (n a : Nat) : place 0#n a = 0#32 := by simp [place]

/-- A field in two parts that stand in the other order (30_encoding.md R152, R155). -/
theorem extractLsb'_append_swapped (m n : Nat) (v : BitVec (m + n)) :
    v.extractLsb' n m ++ v.extractLsb' 0 n = v := by
  ext i hi
  simp only [BitVec.getElem_append, BitVec.getElem_extractLsb']
  split
  · simp [BitVec.getLsbD_eq_getElem hi]
  · rw [Nat.add_sub_cancel' (by omega), BitVec.getLsbD_eq_getElem hi]

/-! ### The fields of each form -/

theorem xoForm_fields (xo : BitVec 9) (rt ra rb : BitVec 5) (oe rc : Bool) :
    let w := xoForm xo rt ra rb oe rc
    bits w 0 6 = 31 ∧ bits w 6 5 = rt ∧ bits w 11 5 = ra ∧ bits w 16 5 = rb ∧ bitAt w 21 = oe ∧
      bits w 21 10 = ofBool oe ++ xo ∧ bitAt w 31 = rc := by
  simp (disch := omega) [xoForm, bits_split _ 21 1 9, bits_or, bitAt_or, bits_place_self, bits_place_disjoint,
    bitAt_place_disjoint, bitAt_place_ofBool]

theorem dForm_fields (op : BitVec 6) (rt ra : BitVec 5) (imm : BitVec 16) :
    let w := dForm op rt ra imm
    bits w 0 6 = op ∧ bits w 6 5 = rt ∧ bits w 11 5 = ra ∧ bits w 16 16 = imm := by
  simp (disch := omega) [dForm, bits_or, bits_place_self, bits_place_disjoint]

theorem xForm_fields (op : BitVec 6) (xo : BitVec 10) (rt ra rb : BitVec 5) (rc : Bool) :
    let w := xForm op xo rt ra rb rc
    bits w 0 6 = op ∧ bits w 6 5 = rt ∧ bits w 11 5 = ra ∧ bits w 16 5 = rb ∧ bits w 21 10 = xo ∧ bitAt w 31 = rc := by
  simp (disch := omega) [xForm, bits_or, bitAt_or, bits_place_self, bits_place_disjoint, bitAt_place_disjoint,
    bitAt_place_ofBool]

theorem mForm_fields (op : BitVec 6) (rs ra sh mb me : BitVec 5) (rc : Bool) :
    let w := mForm op rs ra sh mb me rc
    bits w 0 6 = op ∧ bits w 6 5 = rs ∧ bits w 11 5 = ra ∧ bits w 16 5 = sh ∧ bits w 21 5 = mb ∧ bits w 26 5 = me ∧
      bitAt w 31 = rc := by
  simp (disch := omega) [mForm, bits_or, bitAt_or, bits_place_self, bits_place_disjoint, bitAt_place_disjoint,
    bitAt_place_ofBool]

theorem mdForm_fields (xo : BitVec 3) (ds da : BitVec 5) (sh mb : BitVec 6) (rc : Bool) :
    let w := mdForm xo ds da sh mb rc
    bits w 0 6 = 30 ∧ bits w 6 5 = ds ∧ bits w 11 5 = da ∧ bits w 30 1 ++ bits w 16 5 = sh ∧
      bits w 26 1 ++ bits w 21 5 = mb ∧ bits w 27 3 = xo ∧ bitAt w 31 = rc := by
  simp (disch := omega) [mdForm, bits_or, bitAt_or, bits_place_self, bits_place_disjoint, bitAt_place_disjoint,
    bitAt_place_ofBool, extractLsb'_append_swapped 1 5]

theorem iForm_fields (li : BitVec 24) (aa lk : Bool) :
    let w := iForm li aa lk
    bits w 0 6 = 18 ∧ bits w 6 24 = li ∧ bitAt w 30 = aa ∧ bitAt w 31 = lk := by
  simp (disch := omega) [iForm, bits_or, bitAt_or, bits_place_self, bits_place_disjoint, bitAt_place_disjoint,
    bitAt_place_ofBool]

theorem bForm_fields (bo bi : BitVec 5) (bd : BitVec 14) (aa lk : Bool) :
    let w := bForm bo bi bd aa lk
    bits w 0 6 = 16 ∧ bits w 6 5 = bo ∧ bits w 11 5 = bi ∧ bits w 16 14 = bd ∧ bitAt w 30 = aa ∧ bitAt w 31 = lk := by
  simp (disch := omega) [bForm, bits_or, bitAt_or, bits_place_self, bits_place_disjoint, bitAt_place_disjoint,
    bitAt_place_ofBool]

theorem fcbForm_fields (fcbxo : BitVec 2) (px : Bool) (bix : BitVec 2) (ra rb : BitVec 5) (bdx : BitVec 10) (lk : Bool) :
    let w := fcbForm fcbxo px bix ra rb bdx lk
    bits w 0 6 = 1 ∧ bits w 6 2 = fcbxo ∧ bitAt w 8 = px ∧ bits w 9 2 = bix ∧ bits w 11 5 = ra ∧ bits w 16 5 = rb ∧
      bits w 21 10 = bdx ∧ bitAt w 31 = lk := by
  simp (disch := omega) [fcbForm, bits_or, bitAt_or, bits_place_self, bits_place_disjoint, bitAt_place_disjoint,
    bitAt_place_ofBool]

theorem ddForm_fields (op : BitVec 6) (rt ra : BitVec 5) (dd : BitVec 13) (cx : Bool) :
    let w := ddForm op rt ra dd cx
    bits w 0 6 = op ∧ bits w 6 5 = rt ∧ bits w 11 5 = ra ∧ bits w 16 13 = dd ∧ bitAt w 29 = cx ∧ bits w 30 2 = 3 := by
  simp (disch := omega) [ddForm, bits_or, bitAt_or, bits_place_self, bits_place_disjoint, bitAt_place_disjoint,
    bitAt_place_ofBool]

theorem xfxForm_fields (xo : BitVec 10) (rt : BitVec 5) (sprn : BitVec 10) :
    let w := xfxForm xo rt sprn
    bits w 0 6 = 31 ∧ bits w 6 5 = rt ∧ sprNumber w = sprn ∧ bits w 21 10 = xo := by
  simp (disch := omega) [xfxForm, sprNumber, bits_or, bits_place_self, bits_place_disjoint, extractLsb'_append_swapped 5 5]

theorem compareFieldsZero_xForm (op : BitVec 6) (xo : BitVec 10) (ra rb : BitVec 5) (rc : Bool) :
    compareFieldsZero (xForm op xo 0#5 ra rb rc) = true := by
  simp (disch := omega) [compareFieldsZero, xForm, place_zero, bits_or, bitAt_or, bits_place_disjoint,
    bitAt_place_disjoint]

theorem compareFieldsZero_dForm (op : BitVec 6) (ra : BitVec 5) (imm : BitVec 16) :
    compareFieldsZero (dForm op 0#5 ra imm) = true := by
  simp (disch := omega) [compareFieldsZero, dForm, place_zero, bits_or, bitAt_or, bits_place_disjoint,
    bitAt_place_disjoint]

/-! ### What the decoder selects by: the opcodes of each form -/

@[simp] theorem xoForm_op (xo : BitVec 9) (rt ra rb : BitVec 5) (oe rc : Bool) :
    bits (xoForm xo rt ra rb oe rc) 0 6 = 31 := (xoForm_fields xo rt ra rb oe rc).1

@[simp] theorem xoForm_xo (xo : BitVec 9) (rt ra rb : BitVec 5) (oe rc : Bool) :
    bits (xoForm xo rt ra rb oe rc) 21 10 = ofBool oe ++ xo := by
  obtain ⟨-, -, -, -, -, hxo, -⟩ := xoForm_fields xo rt ra rb oe rc
  exact hxo

@[simp] theorem dForm_op (op : BitVec 6) (rt ra : BitVec 5) (imm : BitVec 16) : bits (dForm op rt ra imm) 0 6 = op :=
  (dForm_fields op rt ra imm).1

@[simp] theorem xForm_op (op : BitVec 6) (xo : BitVec 10) (rt ra rb : BitVec 5) (rc : Bool) :
    bits (xForm op xo rt ra rb rc) 0 6 = op := (xForm_fields op xo rt ra rb rc).1

@[simp] theorem xForm_xo (op : BitVec 6) (xo : BitVec 10) (rt ra rb : BitVec 5) (rc : Bool) :
    bits (xForm op xo rt ra rb rc) 21 10 = xo := by
  obtain ⟨-, -, -, -, hxo, -⟩ := xForm_fields op xo rt ra rb rc
  exact hxo

@[simp] theorem mForm_op (op : BitVec 6) (rs ra sh mb me : BitVec 5) (rc : Bool) :
    bits (mForm op rs ra sh mb me rc) 0 6 = op := (mForm_fields op rs ra sh mb me rc).1

@[simp] theorem mdForm_op (xo : BitVec 3) (ds da : BitVec 5) (sh mb : BitVec 6) (rc : Bool) :
    bits (mdForm xo ds da sh mb rc) 0 6 = 30 := (mdForm_fields xo ds da sh mb rc).1

@[simp] theorem mdForm_xo (xo : BitVec 3) (ds da : BitVec 5) (sh mb : BitVec 6) (rc : Bool) :
    bits (mdForm xo ds da sh mb rc) 27 3 = xo := by
  obtain ⟨-, -, -, -, -, hxo, -⟩ := mdForm_fields xo ds da sh mb rc
  exact hxo

@[simp] theorem fcbForm_op (fcbxo : BitVec 2) (px : Bool) (bix : BitVec 2) (ra rb : BitVec 5) (bdx : BitVec 10) (lk : Bool) :
    bits (fcbForm fcbxo px bix ra rb bdx lk) 0 6 = 1 := (fcbForm_fields fcbxo px bix ra rb bdx lk).1

@[simp] theorem ddForm_op (op : BitVec 6) (rt ra : BitVec 5) (dd : BitVec 13) (cx : Bool) :
    bits (ddForm op rt ra dd cx) 0 6 = op := (ddForm_fields op rt ra dd cx).1

@[simp] theorem xfxForm_op (xo : BitVec 10) (rt : BitVec 5) (sprn : BitVec 10) : bits (xfxForm xo rt sprn) 0 6 = 31 :=
  (xfxForm_fields xo rt sprn).1

@[simp] theorem xfxForm_xo (xo : BitVec 10) (rt : BitVec 5) (sprn : BitVec 10) : bits (xfxForm xo rt sprn) 21 10 = xo := by
  obtain ⟨-, -, -, hxo⟩ := xfxForm_fields xo rt sprn
  exact hxo

/-! ### Each decoder inverts its form -/

@[simp] theorem decodeXo3_xoForm (mk : Gpr → Gpr → Gpr → Bool → Bool → Instr) (xo : BitVec 9) (rt ra rb : Gpr) (oe rc : Bool) :
    decodeXo3 mk (xoForm xo rt.num ra.num rb.num oe rc) = .ok (mk rt ra rb oe rc) := by
  obtain ⟨-, hrt, hra, hrb, hoe, -, hrc⟩ := xoForm_fields xo rt.num ra.num rb.num oe rc
  simp only [decodeXo3, gprAt_ok _ _ _ hrt, gprAt_ok _ _ _ hra, gprAt_ok _ _ _ hrb, hoe, hrc]
  rfl

@[simp] theorem decodeXo2_xoForm (mk : Gpr → Gpr → Bool → Bool → Instr) (xo : BitVec 9) (rt ra : Gpr) (rb : BitVec 5)
    (oe rc : Bool) : decodeXo2 mk (xoForm xo rt.num ra.num rb oe rc) = .ok (mk rt ra oe rc) := by
  obtain ⟨-, hrt, hra, -, hoe, -, hrc⟩ := xoForm_fields xo rt.num ra.num rb oe rc
  simp only [decodeXo2, gprAt_ok _ _ _ hrt, gprAt_ok _ _ _ hra, hoe, hrc]
  rfl

@[simp] theorem decodeD_dForm (mk : Gpr → Gpr → BitVec 16 → Instr) (op : BitVec 6) (rt ra : Gpr) (imm : BitVec 16) :
    decodeD mk (dForm op rt.num ra.num imm) = .ok (mk rt ra imm) := by
  obtain ⟨-, hrt, hra, himm⟩ := dForm_fields op rt.num ra.num imm
  simp only [decodeD, gprAt_ok _ _ _ hrt, gprAt_ok _ _ _ hra, himm]
  rfl

@[simp] theorem decodeDLogical_dForm (mk : Gpr → Gpr → BitVec 16 → Instr) (op : BitVec 6) (rs ra : Gpr) (imm : BitVec 16) :
    decodeDLogical mk (dForm op rs.num ra.num imm) = .ok (mk ra rs imm) := by
  obtain ⟨-, hrs, hra, himm⟩ := dForm_fields op rs.num ra.num imm
  simp only [decodeDLogical, gprAt_ok _ _ _ hrs, gprAt_ok _ _ _ hra, himm]
  rfl

@[simp] theorem decodeDVdr_dForm (mk : Vdr → Gpr → BitVec 16 → Instr) (op : BitVec 6) (dt : Vdr) (ra : Gpr) (imm : BitVec 16) :
    decodeDVdr mk (dForm op dt.num ra.num imm) = .ok (mk dt ra imm) := by
  obtain ⟨-, hdt, hra, himm⟩ := dForm_fields op dt.num ra.num imm
  simp only [decodeDVdr, vdrAt_ok _ _ _ hdt, gprAt_ok _ _ _ hra, himm]
  rfl

@[simp] theorem decodeCmpImm_dForm (mk : Gpr → BitVec 16 → Instr) (op : BitVec 6) (ra : Gpr) (imm : BitVec 16) :
    decodeCmpImm mk (dForm op 0#5 ra.num imm) = .ok (mk ra imm) := by
  obtain ⟨-, -, hra, himm⟩ := dForm_fields op 0#5 ra.num imm
  simp only [decodeCmpImm, requiring, compareFieldsZero_dForm, gprAt_ok _ _ _ hra, himm]
  rfl

@[simp] theorem decodeX3_xForm (mk : Gpr → Gpr → Gpr → Instr) (op : BitVec 6) (xo : BitVec 10) (rt ra rb : Gpr) (rc : Bool) :
    decodeX3 mk (xForm op xo rt.num ra.num rb.num rc) = .ok (mk rt ra rb) := by
  obtain ⟨-, hrt, hra, hrb, -, -⟩ := xForm_fields op xo rt.num ra.num rb.num rc
  simp only [decodeX3, gprAt_ok _ _ _ hrt, gprAt_ok _ _ _ hra, gprAt_ok _ _ _ hrb]
  rfl

@[simp] theorem decodeX3Vdr_xForm (mk : Vdr → Gpr → Gpr → Instr) (op : BitVec 6) (xo : BitVec 10) (dt : Vdr) (ra rb : Gpr)
    (rc : Bool) : decodeX3Vdr mk (xForm op xo dt.num ra.num rb.num rc) = .ok (mk dt ra rb) := by
  obtain ⟨-, hdt, hra, hrb, -, -⟩ := xForm_fields op xo dt.num ra.num rb.num rc
  simp only [decodeX3Vdr, vdrAt_ok _ _ _ hdt, gprAt_ok _ _ _ hra, gprAt_ok _ _ _ hrb]
  rfl

@[simp] theorem decodeX3Rc_xForm (mk : Gpr → Gpr → Gpr → Bool → Instr) (op : BitVec 6) (xo : BitVec 10) (rt ra rb : Gpr)
    (rc : Bool) : decodeX3Rc mk (xForm op xo rt.num ra.num rb.num rc) = .ok (mk rt ra rb rc) := by
  obtain ⟨-, hrt, hra, hrb, -, hrc⟩ := xForm_fields op xo rt.num ra.num rb.num rc
  simp only [decodeX3Rc, gprAt_ok _ _ _ hrt, gprAt_ok _ _ _ hra, gprAt_ok _ _ _ hrb, hrc]
  rfl

@[simp] theorem decodeLogical_xForm (mk : Gpr → Gpr → Gpr → Bool → Instr) (op : BitVec 6) (xo : BitVec 10) (rs ra rb : Gpr)
    (rc : Bool) : decodeLogical mk (xForm op xo rs.num ra.num rb.num rc) = .ok (mk ra rs rb rc) := by
  obtain ⟨-, hrs, hra, hrb, -, hrc⟩ := xForm_fields op xo rs.num ra.num rb.num rc
  simp only [decodeLogical, gprAt_ok _ _ _ hrs, gprAt_ok _ _ _ hra, gprAt_ok _ _ _ hrb, hrc]
  rfl

@[simp] theorem decodeLogical2_xForm (mk : Gpr → Gpr → Bool → Instr) (op : BitVec 6) (xo : BitVec 10) (rs ra : Gpr)
    (rb : BitVec 5) (rc : Bool) : decodeLogical2 mk (xForm op xo rs.num ra.num rb rc) = .ok (mk ra rs rc) := by
  obtain ⟨-, hrs, hra, -, -, hrc⟩ := xForm_fields op xo rs.num ra.num rb rc
  simp only [decodeLogical2, gprAt_ok _ _ _ hrs, gprAt_ok _ _ _ hra, hrc]
  rfl

@[simp] theorem decodeShiftVdr_xForm (mk : Vdr → Vdr → Gpr → Bool → Instr) (op : BitVec 6) (xo : BitVec 10) (ds da : Vdr)
    (rb : Gpr) (rc : Bool) : decodeShiftVdr mk (xForm op xo ds.num da.num rb.num rc) = .ok (mk da ds rb rc) := by
  obtain ⟨-, hds, hda, hrb, -, hrc⟩ := xForm_fields op xo ds.num da.num rb.num rc
  simp only [decodeShiftVdr, vdrAt_ok _ _ _ hds, vdrAt_ok _ _ _ hda, gprAt_ok _ _ _ hrb, hrc]
  rfl

@[simp] theorem decodeRaRb_xForm (mk : Gpr → Gpr → Instr) (op : BitVec 6) (xo : BitVec 10) (rt : BitVec 5) (ra rb : Gpr)
    (rc : Bool) : decodeRaRb mk (xForm op xo rt ra.num rb.num rc) = .ok (mk ra rb) := by
  obtain ⟨-, -, hra, hrb, -, -⟩ := xForm_fields op xo rt ra.num rb.num rc
  simp only [decodeRaRb, gprAt_ok _ _ _ hra, gprAt_ok _ _ _ hrb]
  rfl

@[simp] theorem decodeCmp_xForm (mk : Gpr → Gpr → Instr) (op : BitVec 6) (xo : BitVec 10) (ra rb : Gpr) (rc : Bool) :
    decodeCmp mk (xForm op xo 0#5 ra.num rb.num rc) = .ok (mk ra rb) := by
  rw [decodeCmp, compareFieldsZero_xForm, decodeRaRb_xForm]
  rfl

/-- A register in bits 6:10 alone is all that counts, whatever the other fields are. -/
theorem decodeR_of_field {w : Word} (mk : Gpr → Instr) (r : Gpr) (h : bits w 6 5 = r.num) : decodeR mk w = .ok (mk r) := by
  rw [decodeR, gprAt_ok _ _ _ h]
  rfl

@[simp] theorem decodeR_xForm (mk : Gpr → Instr) (op : BitVec 6) (xo : BitVec 10) (rt : Gpr) (ra rb : BitVec 5) (rc : Bool) :
    decodeR mk (xForm op xo rt.num ra rb rc) = .ok (mk rt) := by
  obtain ⟨-, hrt, -, -, -, -⟩ := xForm_fields op xo rt.num ra rb rc
  exact decodeR_of_field mk rt hrt

@[simp] theorem decodeR_xfxForm (mk : Gpr → BitVec 10 → Instr) (xo : BitVec 10) (rt : Gpr) (sprn : BitVec 10) :
    decodeR (fun r => mk r (sprNumber (xfxForm xo rt.num sprn))) (xfxForm xo rt.num sprn) = .ok (mk rt sprn) := by
  obtain ⟨-, hrt, hsprn, -⟩ := xfxForm_fields xo rt.num sprn
  rw [decodeR_of_field _ rt hrt, hsprn]

@[simp] theorem decodeM_mForm (mk : Gpr → Gpr → BitVec 5 → BitVec 5 → BitVec 5 → Bool → Instr) (op : BitVec 6) (rs ra : Gpr)
    (sh mb me : BitVec 5) (rc : Bool) : decodeM mk (mForm op rs.num ra.num sh mb me rc) = .ok (mk ra rs sh mb me rc) := by
  obtain ⟨-, hrs, hra, hsh, hmb, hme, hrc⟩ := mForm_fields op rs.num ra.num sh mb me rc
  simp only [decodeM, gprAt_ok _ _ _ hrs, gprAt_ok _ _ _ hra, hsh, hmb, hme, hrc]
  rfl

@[simp] theorem decodeMReg_mForm (mk : Gpr → Gpr → Gpr → BitVec 5 → BitVec 5 → Bool → Instr) (op : BitVec 6) (rs ra rb : Gpr)
    (mb me : BitVec 5) (rc : Bool) : decodeMReg mk (mForm op rs.num ra.num rb.num mb me rc) = .ok (mk ra rs rb mb me rc) := by
  obtain ⟨-, hrs, hra, hrb, hmb, hme, hrc⟩ := mForm_fields op rs.num ra.num rb.num mb me rc
  simp only [decodeMReg, gprAt_ok _ _ _ hrs, gprAt_ok _ _ _ hra, gprAt_ok _ _ _ hrb, hmb, hme, hrc]
  rfl

@[simp] theorem decodeMd_mdForm (mk : Vdr → Vdr → BitVec 6 → BitVec 6 → Bool → Instr) (xo : BitVec 3) (ds da : Vdr)
    (sh mb : BitVec 6) (rc : Bool) : decodeMd mk (mdForm xo ds.num da.num sh mb rc) = .ok (mk da ds sh mb rc) := by
  obtain ⟨-, hds, hda, hsh, hmb, -, hrc⟩ := mdForm_fields xo ds.num da.num sh mb rc
  simp only [decodeMd, vdrAt_ok _ _ _ hds, vdrAt_ok _ _ _ hda, hsh, hmb, hrc]
  rfl

@[simp] theorem decodeDd_ddForm (small context : Gpr → Gpr → BitVec 13 → Instr) (op : BitVec 6) (rt ra : Gpr) (dd : BitVec 13)
    (cx : Bool) :
    decodeDd small context (ddForm op rt.num ra.num dd cx) = .ok (if cx then context rt ra dd else small rt ra dd) := by
  obtain ⟨-, hrt, hra, hdd, hcx, hxo⟩ := ddForm_fields op rt.num ra.num dd cx
  simp only [decodeDd, requiring, gprAt_ok _ _ _ hrt, gprAt_ok _ _ _ hra, hdd, hcx, hxo]
  cases cx <;> rfl

@[simp] theorem decodeFcbReg_fcbForm (mk : Gpr → Gpr → BitVec 10 → Bool → Instr) (fcbxo : BitVec 2) (px : Bool) (bix : BitVec 2)
    (ra rb : Gpr) (bdx : BitVec 10) (lk : Bool) :
    decodeFcbReg mk (fcbForm fcbxo px bix ra.num rb.num bdx lk) = .ok (mk ra rb bdx lk) := by
  obtain ⟨-, -, -, -, hra, hrb, hbdx, hlk⟩ := fcbForm_fields fcbxo px bix ra.num rb.num bdx lk
  simp only [decodeFcbReg, gprAt_ok _ _ _ hra, gprAt_ok _ _ _ hrb, hbdx, hlk]
  rfl

@[simp] theorem decodeFcbImm_fcbForm (mk : Gpr → BitVec 5 → BitVec 10 → Bool → Instr) (fcbxo : BitVec 2) (px : Bool)
    (bix : BitVec 2) (ra : Gpr) (imm : BitVec 5) (bdx : BitVec 10) (lk : Bool) :
    decodeFcbImm mk (fcbForm fcbxo px bix ra.num imm bdx lk) = .ok (mk ra imm bdx lk) := by
  obtain ⟨-, -, -, -, hra, himm, hbdx, hlk⟩ := fcbForm_fields fcbxo px bix ra.num imm bdx lk
  simp only [decodeFcbImm, gprAt_ok _ _ _ hra, himm, hbdx, hlk]
  rfl

/-! ### The round trip -/

/-- The word of `mtcrf` has its two opcodes and RS, and 128 in the field that R167 fixes. -/
theorem mtcrf_fields (rs : BitVec 5) :
    let w := place 31#6 0 ||| place rs 6 ||| place 128#9 11 ||| place 144#10 21
    bits w 0 6 = 31 ∧ bits w 6 5 = rs ∧ bits w 11 9 = 128 ∧ bits w 21 10 = 144 := by
  simp (disch := omega) [bits_or, bits_place_self, bits_place_disjoint]

theorem wrteei_fields (b : Bool) :
    let w := place 31#6 0 ||| place (ofBool b) 16 ||| place 163#10 21
    bits w 0 6 = 31 ∧ bitAt w 16 = b ∧ bits w 21 10 = 163 := by
  simp (disch := omega) [bits_or, bitAt_or, bits_place_self, bits_place_disjoint, bitAt_place_disjoint, bitAt_place_ofBool]

/-- The fused comparisons and the bit forms are told apart by their codes, which are distinct (30_encoding.md R160). -/
theorem decodeFused_fcbForm (e : FcbCodes) (he : e.injective = true) (px : Bool) (bix : BitVec 2) (ra rb : Gpr)
    (imm : BitVec 5) (bdx : BitVec 10) (lk : Bool) :
    decodeFused e (fcbForm e.cmpwbc px bix ra.num rb.num bdx lk) = .ok (.cmpwbc px bix ra rb bdx lk) ∧
    decodeFused e (fcbForm e.cmplwbc px bix ra.num rb.num bdx lk) = .ok (.cmplwbc px bix ra rb bdx lk) ∧
    decodeFused e (fcbForm e.cmpwibc px bix ra.num imm bdx lk) = .ok (.cmpwibc px bix ra imm bdx lk) ∧
    ∀ w : Word, bits w 6 2 = e.bitForm → decodeFused e w = decodeFusedBit e w := by
  obtain ⟨hfcbxo, -⟩ := of_decide_eq_true he
  simp only [List.nodup_cons, List.mem_cons, List.not_mem_nil, or_false, not_or] at hfcbxo
  obtain ⟨⟨h01, h02, h03⟩, ⟨h12, h13⟩, h23, -, -⟩ := hfcbxo
  refine ⟨?_, ?_, ?_, fun w hw => ?_⟩
  · obtain ⟨-, hxo, hpx, hbix, -, -, -, -⟩ := fcbForm_fields e.cmpwbc px bix ra.num rb.num bdx lk
    simp [decodeFused, hxo, hpx, hbix]
  · obtain ⟨-, hxo, hpx, hbix, -, -, -, -⟩ := fcbForm_fields e.cmplwbc px bix ra.num rb.num bdx lk
    simp [decodeFused, hxo, hpx, hbix, Ne.symm h01]
  · obtain ⟨-, hxo, hpx, hbix, -, -, -, -⟩ := fcbForm_fields e.cmpwibc px bix ra.num imm bdx lk
    simp [decodeFused, hxo, hpx, hbix, Ne.symm h02, Ne.symm h12]
  · simp [decodeFused, hw, requiring, Ne.symm h03, Ne.symm h13, Ne.symm h23]

theorem decodeFusedBit_fcbForm (e : FcbCodes) (he : e.injective = true) (px : Bool) (ra rb : Gpr)
    (imm : BitVec 5) (bdx : BitVec 10) (lk : Bool) :
    decodeFusedBit e (fcbForm e.bitForm px e.bnbwi ra.num imm bdx lk) = .ok (.bnbwi px ra imm bdx lk) ∧
    decodeFusedBit e (fcbForm e.bitForm px e.bnbw ra.num rb.num bdx lk) = .ok (.bnbw px ra rb bdx lk) ∧
    decodeFusedBit e (fcbForm e.bitForm px e.clrbwibc ra.num imm bdx lk) = .ok (.clrbwibc px ra imm bdx lk) ∧
    decodeFusedBit e (fcbForm e.bitForm px e.clrbwbc ra.num rb.num bdx lk) = .ok (.clrbwbc px ra rb bdx lk) := by
  obtain ⟨-, hbbxo⟩ := of_decide_eq_true he
  simp only [List.nodup_cons, List.mem_cons, List.not_mem_nil, or_false, not_or] at hbbxo
  obtain ⟨⟨h01, h02, h03⟩, ⟨h12, h13⟩, h23, -, -⟩ := hbbxo
  refine ⟨?_, ?_, ?_, ?_⟩
  · obtain ⟨-, -, hpx, hbbxo, -, -, -, -⟩ := fcbForm_fields e.bitForm px e.bnbwi ra.num imm bdx lk
    simp [decodeFusedBit, hpx, hbbxo]
  · obtain ⟨-, -, hpx, hbbxo, -, -, -, -⟩ := fcbForm_fields e.bitForm px e.bnbw ra.num rb.num bdx lk
    simp [decodeFusedBit, hpx, hbbxo, Ne.symm h01]
  · obtain ⟨-, -, hpx, hbbxo, -, -, -, -⟩ := fcbForm_fields e.bitForm px e.clrbwibc ra.num imm bdx lk
    simp [decodeFusedBit, hpx, hbbxo, Ne.symm h02, Ne.symm h12]
  · obtain ⟨-, -, hpx, hbbxo, -, -, -, -⟩ := fcbForm_fields e.bitForm px e.clrbwbc ra.num rb.num bdx lk
    simp [decodeFusedBit, hpx, hbbxo, requiring, Ne.symm h03, Ne.symm h13, Ne.symm h23]

theorem fcbForm_fcbxo (fcbxo : BitVec 2) (px : Bool) (bix : BitVec 2) (ra rb : BitVec 5) (bdx : BitVec 10) (lk : Bool) :
    bits (fcbForm fcbxo px bix ra rb bdx lk) 6 2 = fcbxo := by
  obtain ⟨-, hxo, -⟩ := fcbForm_fields fcbxo px bix ra rb bdx lk
  exact hxo

theorem decode_of_op31 (e : FcbCodes) {w : Word} (h : bits w 0 6 = 31) : decode e w = decodeOp31 w := by
  rw [decode, h]
  rfl

theorem decode_encode_mtcrf (e : FcbCodes) (rs : Gpr) : decode e (encode e (.mtcrf rs)) = .ok (.mtcrf rs) := by
  obtain ⟨hop, hrs, hfixed, hxo⟩ := mtcrf_fields rs.num
  simp only [encode, decode_of_op31 e hop, decodeOp31, hxo, hfixed, decodeR_of_field _ rs hrs]
  rfl

theorem decode_encode_wrteei (e : FcbCodes) (b : Bool) : decode e (encode e (.wrteei b)) = .ok (.wrteei b) := by
  obtain ⟨hop, hb, hxo⟩ := wrteei_fields b
  simp only [encode, decode_of_op31 e hop, decodeOp31, hxo, hb]
  rfl

theorem decode_encode_tw (e : FcbCodes) (cond ra rb : BitVec 5) (tg : Bool) :
    decode e (encode e (.tw cond ra rb tg)) = .ok (.tw cond ra rb tg) := by
  obtain ⟨hop, hcond, hra, hrb, hxo, htg⟩ := xForm_fields 31 4 cond ra rb tg
  simp only [encode, decode_of_op31 e hop, decodeOp31, hxo, hcond, hra, hrb, htg]
  rfl

theorem decode_encode_srawi (e : FcbCodes) (ra rs : Gpr) (sh : BitVec 5) (rc : Bool) :
    decode e (encode e (.srawi ra rs sh rc)) = .ok (.srawi ra rs sh rc) := by
  obtain ⟨hop, hrs, hra, hsh, hxo, hrc⟩ := xForm_fields 31 824 rs.num ra.num sh rc
  simp only [encode, decode_of_op31 e hop, decodeOp31, hxo, gprAt_ok _ _ _ hrs, gprAt_ok _ _ _ hra, hsh, hrc]
  rfl

theorem decode_encode_b (e : FcbCodes) (li : BitVec 24) (aa lk : Bool) :
    decode e (encode e (.b li aa lk)) = .ok (.b li aa lk) := by
  obtain ⟨hop, hli, haa, hlk⟩ := iForm_fields li aa lk
  simp [encode, decode, hop, hli, haa, hlk]

theorem decode_encode_bc (e : FcbCodes) (bo bi : BitVec 5) (bd : BitVec 14) (aa lk : Bool) :
    decode e (encode e (.bc bo bi bd aa lk)) = .ok (.bc bo bi bd aa lk) := by
  obtain ⟨hop, hbo, hbi, hbd, haa, hlk⟩ := bForm_fields bo bi bd aa lk
  simp [encode, decode, hop, hbo, hbi, hbd, haa, hlk]

theorem decode_encode_bcctr (e : FcbCodes) (bo bi : BitVec 5) (lk : Bool) :
    decode e (encode e (.bcctr bo bi lk)) = .ok (.bcctr bo bi lk) := by
  obtain ⟨-, hbo, hbi, -, -, hlk⟩ := xForm_fields 19#6 528#10 bo bi 0#5 lk
  simp [encode, decode, decodeOp19, hbo, hbi, hlk]

theorem decode_encode_bclr (e : FcbCodes) (bo bi : BitVec 5) (lk : Bool) :
    decode e (encode e (.bclr bo bi lk)) = .ok (.bclr bo bi lk) := by
  obtain ⟨-, hbo, hbi, -, -, hlk⟩ := xForm_fields 19#6 16#10 bo bi 0#5 lk
  simp [encode, decode, decodeOp19, hbo, hbi, hlk]

/-- Settles O1: the decoder of each opcode inverts the form that the encoder writes; `FCB_ENC`, being injective, tells the fused forms
apart. -/
theorem decodeInvertsEncode : Obligations.DecodeInvertsEncode := by
  intro e i he
  cases i with
  | add _ _ _ oe | addc _ _ _ oe | adde _ _ _ oe | subf _ _ _ oe | subfc _ _ _ oe | subfe _ _ _ oe | mullw _ _ _ oe =>
    rw [encode, decode_of_op31 e (xoForm_op ..), decodeOp31, xoForm_xo]
    cases oe <;> exact decodeXo3_xoForm ..
  | addme _ _ oe | addze _ _ oe | subfme _ _ oe | subfze _ _ oe | neg _ _ oe =>
    rw [encode, decode_of_op31 e (xoForm_op ..), decodeOp31, xoForm_xo]
    cases oe <;> exact decodeXo2_xoForm ..
  | addi | addic | addicDot | addis | subfic | mulli | lbz | lbzu | lhz | lhzu | lwz | lwzu | stb | stbu | sth | sthu | stw | stwu =>
    rw [encode, decode, dForm_op]; exact decodeD_dForm ..
  | andiDot | andisDot | ori | oris | xori | xoris => rw [encode, decode, dForm_op]; exact decodeDLogical_dForm ..
  | cmpwi | cmplwi => rw [encode, decode, dForm_op]; exact decodeCmpImm_dForm ..
  | lvd | lvdu | stvd | stvdu => rw [encode, decode, dForm_op]; exact decodeDVdr_dForm ..
  | rlwimi | rlwinm => rw [encode, decode, mForm_op]; exact decodeM_mForm ..
  | rlwnm => rw [encode, decode, mForm_op]; exact decodeMReg_mForm ..
  | lsku | lcxu | stsku | stcxu => rw [encode, decode, ddForm_op]; exact decodeDd_ddForm ..
  | mullhw | mullhwu => simp [encode, decode, decodeOp4]
  | rldicl | rldicr | rldimi => simp [encode, decode, decodeOp30]
  | and | andc | or | orc | xor | nand | nor | eqv | slw | srw | sraw =>
    rw [encode, decode_of_op31 e (xForm_op ..), decodeOp31, xForm_xo]; exact decodeLogical_xForm ..
  | extsb | extsh | cntlzw =>
    rw [encode, decode_of_op31 e (xForm_op ..), decodeOp31, xForm_xo]; exact decodeLogical2_xForm ..
  | slvd | srvd => rw [encode, decode_of_op31 e (xForm_op ..), decodeOp31, xForm_xo]; exact decodeShiftVdr_xForm ..
  | cmpw | cmplw => rw [encode, decode_of_op31 e (xForm_op ..), decodeOp31, xForm_xo]; exact decodeCmp_xForm ..
  | lbzx | lhzx | lwzx | stbx | sthx | stwx | dcbq =>
    rw [encode, decode_of_op31 e (xForm_op ..), decodeOp31, xForm_xo]; exact decodeX3_xForm ..
  | lvdx | stvdx => rw [encode, decode_of_op31 e (xForm_op ..), decodeOp31, xForm_xo]; exact decodeX3Vdr_xForm ..
  | dcbf | dcbi | dcbt | dcbz =>
    rw [encode, decode_of_op31 e (xForm_op ..), decodeOp31, xForm_xo]; exact decodeRaRb_xForm ..
  | mfcr | mfmsr | mtmsr | wrtee =>
    rw [encode, decode_of_op31 e (xForm_op ..), decodeOp31, xForm_xo]; exact decodeR_xForm ..
  | mfspr => rw [encode, decode_of_op31 e (xfxForm_op ..), decodeOp31, xfxForm_xo]; exact decodeR_xfxForm .mfspr ..
  | mtspr =>
    rw [encode, decode_of_op31 e (xfxForm_op ..), decodeOp31, xfxForm_xo]; exact decodeR_xfxForm (fun rs n => .mtspr n rs) ..
  | sync => rw [encode, decode_of_op31 e (xForm_op ..), decodeOp31, xForm_xo]; rfl
  | rfi => simp [encode, decode, decodeOp19]
  | mtcrf rs => exact decode_encode_mtcrf e rs
  | wrteei b => exact decode_encode_wrteei e b
  | tw cond ra rb tg => exact decode_encode_tw e cond ra rb tg
  | srawi ra rs sh rc => exact decode_encode_srawi e ra rs sh rc
  | b li aa lk => exact decode_encode_b e li aa lk
  | bc bo bi bd aa lk => exact decode_encode_bc e bo bi bd aa lk
  | bcctr bo bi lk => exact decode_encode_bcctr e bo bi lk
  | bclr bo bi lk => exact decode_encode_bclr e bo bi lk
  | cmpwbc px bix ra rb bdx lk | cmplwbc px bix ra rb bdx lk =>
    simp [encode, decode, decodeFused_fcbForm e he px bix ra rb 0 bdx lk]
  | cmpwibc px bix ra imm bdx lk => simp [encode, decode, decodeFused_fcbForm e he px bix ra ra imm bdx lk]
  | bnbwi px ra imm bdx lk | clrbwibc px ra imm bdx lk =>
    obtain ⟨-, -, -, hbit⟩ := decodeFused_fcbForm e he px 0 ra ra imm bdx lk
    simp [encode, decode, hbit _ (fcbForm_fcbxo ..), decodeFusedBit_fcbForm e he px ra ra imm bdx lk]
  | bnbw px ra rb bdx lk | clrbwbc px ra rb bdx lk =>
    obtain ⟨-, -, -, hbit⟩ := decodeFused_fcbForm e he px 0 ra rb 0 bdx lk
    simp [encode, decode, hbit _ (fcbForm_fcbxo ..), decodeFusedBit_fcbForm e he px ra rb 0 bdx lk]

/-- Settles O2, by running the decoder. -/
theorem sampleWordsDecode : Obligations.SampleWordsDecode := by
  unfold Obligations.SampleWordsDecode
  decide

end Sys2Proof
end

section
/-! PROOFS. What the execution of an instruction keeps: the configured parameters, the invariant, a halt condition and a locked halt code
(00_scope.md R9; 10_state.md R70; 62_debug_xir.md R620, R623). -/

namespace Sys2Proof.Machine

/-! ### Reserved bits and aligned addresses -/

theorem within_iff (w m : Word) : within w m = true ↔ w &&& ~~~m = 0 := decide_eq_true_iff

theorem within_and_left (w v m : Word) (h : within w m = true) : within (w &&& v) m = true := by
  rw [within_iff] at h ⊢
  rw [BitVec.and_assoc, BitVec.and_comm v, ← BitVec.and_assoc, h]
  simp

theorem within_and_mask (w m : Word) : within (w &&& m) m = true := by
  rw [within_iff, BitVec.and_assoc]
  simp

theorem within_or (w v m : Word) (hw : within w m = true) (hv : within v m = true) : within (w ||| v) m = true := by
  rw [within_iff] at *
  rw [BitVec.and_or_distrib_right, hw, hv]
  simp

/-- A field placed is inside the field of ones placed there. -/
theorem place_and_ones {n : Nat} (v : BitVec n) (a : Nat) : place v a &&& place (BitVec.allOnes n) a = place v a := by
  rw [place, place, ← BitVec.shiftLeft_and_distrib, ← BitVec.setWidth_and, BitVec.and_allOnes]

/-- A field written keeps the reserved bits 0 where none of them is in the field. -/
theorem within_setField {n : Nat} (w m : Word) (a : Nat) (v : BitVec n) (hw : within w m = true)
    (hm : within (place (BitVec.allOnes n) a) m = true) : within (setField w a v) m = true := by
  refine within_or _ _ _ (within_and_left _ _ _ hw) ?_
  rw [← place_and_ones, BitVec.and_comm]
  exact within_and_left _ _ _ hm

theorem within_setBit (w m : Word) (i : Nat) (b : Bool) (hw : within w m = true)
    (hm : within (place (BitVec.allOnes 1) i) m = true) : within (setBit w i b) m = true := within_setField w m i _ hw hm

theorem aligned_iff_and (a : Word) : aligned a = true ↔ a &&& 3 = 0 := decide_eq_true_iff

theorem aligned_iff (a : Word) : aligned a = true ↔ a.toNat % 4 = 0 := by
  rw [aligned_iff_and, ← BitVec.toNat_inj, BitVec.toNat_and]
  exact (congrArg (· = 0) (Nat.and_two_pow_sub_one_eq_mod a.toNat 2)).to_iff

theorem aligned_wordAlign (a : Word) : aligned (wordAlign a) = true := by
  rw [aligned_iff_and, wordAlign, BitVec.and_assoc]
  simp

theorem aligned_add_four (a : Word) (h : aligned a = true) : aligned (a + 4) = true := by
  rw [aligned_iff] at *
  bv_omega

/-- The vectors are instruction addresses where their offsets are. -/
theorem aligned_vector (c : Config) (o : BitVec 9) (h : o.setWidth 32 &&& 3 = 0#32) : aligned (vector c o) = true := by
  rw [aligned_iff_and, vector, BitVec.and_or_distrib_right, h, BitVec.or_zero, ← BitVec.toNat_inj, BitVec.toNat_and,
    BitVec.toNat_shiftLeft, Nat.shiftLeft_eq]
  have hmod := Nat.and_two_pow_sub_one_eq_mod ((c.ivpr.setWidth 32).toNat * 2 ^ 9 % 2 ^ 32) 2
  refine hmod.trans ?_
  change _ = 0
  omega

/-! ### The relation -/

theorem inv_iff (s : State) : s.Inv ↔
    Memory.wf s.mem = true ∧ aligned s.iar = true ∧ aligned s.srr0 = true ∧ within s.msr msrMask = true ∧
      within s.srr1 msrMask = true ∧ within s.isr isrMask = true ∧ within s.tsr tsrMask = true ∧
      within s.tcr (tcrMask s.cfg.variant) = true ∧ within s.dbcr (dbcrMask s.cfg.variant) = true ∧
      s.controlConsistent = true := by
  simp only [State.Inv, State.reservedClear, Bool.and_eq_true, and_assoc]

/-- What holds between the states before and after an instruction, or a part of one. -/
structure Continues (s t : State) : Prop where
  /-- The configured parameters are the same (00_scope.md R9). -/
  cfg : t.cfg = s.cfg
  inv : s.Inv → t.Inv
  /-- A halt condition stays (62_debug_xir.md R620). -/
  hcp : s.xsr.hcp = true → t.xsr.hcp = true
  /-- A halt code is locked (62_debug_xir.md R623). -/
  hc : s.xsr.hc ≠ 0 → t.xsr.hc = s.xsr.hc

theorem Continues.refl (s : State) : Continues s s := ⟨rfl, id, id, fun _ => rfl⟩

theorem Continues.trans {s t u : State} (h : Continues s t) (k : Continues t u) : Continues s u where
  cfg := k.cfg.trans h.cfg
  inv := k.inv ∘ h.inv
  hcp := k.hcp ∘ h.hcp
  hc hs := (k.hc ((h.hc hs).symm ▸ hs)).trans (h.hc hs)

/-- The part of the state that the invariant speaks of. -/
def State.guarded (s : State) : Config × List Host.Cell × (Word × Word × Word × Word) × (Word × Word × Word × Word) × Xsr :=
  (s.cfg, s.mem, (s.iar, s.srr0, s.msr, s.srr1), (s.isr, s.tsr, s.tcr, s.dbcr), s.xsr)

/-- What changes no register that the invariant speaks of keeps it. -/
theorem continues_of_guarded {s t : State} (h : t.guarded = s.guarded) : Continues s t := by
  simp only [State.guarded, Prod.mk.injEq] at h
  obtain ⟨hcfg, hmem, ⟨hiar, hsrr0, hmsr, hsrr1⟩, ⟨hisr, htsr, htcr, hdbcr⟩, hxsr⟩ := h
  refine ⟨hcfg, fun hs => ?_, fun hs => hxsr ▸ hs, fun _ => by rw [hxsr]⟩
  rw [inv_iff] at *
  simpa only [hcfg, hmem, hiar, hsrr0, hmsr, hsrr1, hisr, htsr, htcr, hdbcr, State.controlConsistent, hxsr] using hs

theorem Continues.congr_left {s t u : State} (h : Continues t u) (hg : t.guarded = s.guarded) : Continues s u :=
  (continues_of_guarded hg).trans h

/-! ### One register written -/

theorem continues_mem (s : State) (m : List Host.Cell) (h : Memory.wf s.mem = true → Memory.wf m = true) :
    Continues s { s with mem := m } where
  cfg := rfl
  inv hs := by obtain ⟨hmem, hrest⟩ := hs; exact ⟨h hmem, hrest⟩
  hcp := id
  hc _ := rfl

theorem continues_iar (s : State) (a : Word) (h : aligned s.iar = true → aligned a = true) :
    Continues s { s with iar := a } where
  cfg := rfl
  inv hs := by
    rw [inv_iff] at *
    obtain ⟨hmem, hiar, hrest⟩ := hs
    exact ⟨hmem, h hiar, hrest⟩
  hcp := id
  hc _ := rfl

theorem continues_srr0 (s : State) (a : Word) : Continues s { s with srr0 := wordAlign a } where
  cfg := rfl
  inv hs := by
    rw [inv_iff] at *
    obtain ⟨hmem, hiar, -, hrest⟩ := hs
    exact ⟨hmem, hiar, aligned_wordAlign a, hrest⟩
  hcp := id
  hc _ := rfl

theorem continues_msr (s : State) (w : Word) (h : within s.msr msrMask = true → within w msrMask = true) :
    Continues s { s with msr := w } where
  cfg := rfl
  inv hs := by
    rw [inv_iff] at *
    obtain ⟨hmem, hiar, hsrr0, hmsr, hrest⟩ := hs
    exact ⟨hmem, hiar, hsrr0, h hmsr, hrest⟩
  hcp := id
  hc _ := rfl

/-- SRR1 takes the MSR, or a word under the same mask. -/
theorem continues_srr1 (s : State) (w : Word) (h : within s.msr msrMask = true → within w msrMask = true) :
    Continues s { s with srr1 := w } where
  cfg := rfl
  inv hs := by
    rw [inv_iff] at *
    obtain ⟨hmem, hiar, hsrr0, hmsr, -, hrest⟩ := hs
    exact ⟨hmem, hiar, hsrr0, hmsr, h hmsr, hrest⟩
  hcp := id
  hc _ := rfl

theorem continues_isr (s : State) (w : Word) (h : within s.isr isrMask = true → within w isrMask = true) :
    Continues s { s with isr := w } where
  cfg := rfl
  inv hs := by
    rw [inv_iff] at *
    obtain ⟨hmem, hiar, hsrr0, hmsr, hsrr1, hisr, hrest⟩ := hs
    exact ⟨hmem, hiar, hsrr0, hmsr, hsrr1, h hisr, hrest⟩
  hcp := id
  hc _ := rfl

theorem continues_tsr (s : State) (w : Word) (h : within s.tsr tsrMask = true → within w tsrMask = true) :
    Continues s { s with tsr := w } where
  cfg := rfl
  inv hs := by
    rw [inv_iff] at *
    obtain ⟨hmem, hiar, hsrr0, hmsr, hsrr1, hisr, htsr, hrest⟩ := hs
    exact ⟨hmem, hiar, hsrr0, hmsr, hsrr1, hisr, h htsr, hrest⟩
  hcp := id
  hc _ := rfl

theorem continues_tcr (s : State) (w : Word)
    (h : within s.tcr (tcrMask s.cfg.variant) = true → within w (tcrMask s.cfg.variant) = true) :
    Continues s { s with tcr := w } where
  cfg := rfl
  inv hs := by
    rw [inv_iff] at *
    obtain ⟨hmem, hiar, hsrr0, hmsr, hsrr1, hisr, htsr, htcr, hrest⟩ := hs
    exact ⟨hmem, hiar, hsrr0, hmsr, hsrr1, hisr, htsr, h htcr, hrest⟩
  hcp := id
  hc _ := rfl

theorem continues_dbcr (s : State) (w : Word) (h : within w (dbcrMask s.cfg.variant) = true) :
    Continues s { s with dbcr := w } where
  cfg := rfl
  inv hs := by
    rw [inv_iff] at *
    obtain ⟨hmem, hiar, hsrr0, hmsr, hsrr1, hisr, htsr, htcr, -, hcontrol⟩ := hs
    exact ⟨hmem, hiar, hsrr0, hmsr, hsrr1, hisr, htsr, htcr, h, hcontrol⟩
  hcp := id
  hc _ := rfl

/-! ### The operations of an instruction -/

theorem continues_setReg (r : Gpr) (v : Word) (s : State) : Continues s (s.setReg r v) := continues_of_guarded rfl
theorem continues_setVdr (d : Vdr) (v : Dword) (s : State) : Continues s (s.setVdr d v) := continues_of_guarded rfl
theorem continues_setCA (c : Bool) (s : State) : Continues s (setCA c s) := continues_of_guarded rfl
theorem continues_cmpCR0 (a b : Word) (signed : Bool) (s : State) : Continues s (cmpCR0 a b signed s) :=
  continues_of_guarded rfl
theorem continues_setCR0 (r : Word) (s : State) : Continues s (setCR0 r s) := continues_of_guarded rfl

theorem continues_record (rc : Bool) (r : Word) (s : State) : Continues s (record rc r s) :=
  continues_of_guarded (by simp [State.guarded])

theorem continues_recordDword (rc : Bool) (r : Dword) (s : State) : Continues s (recordDword rc r s) :=
  continues_of_guarded (by simp [State.guarded])

theorem continues_overflow (oe v : Bool) (s : State) : Continues s (overflow oe v s) :=
  continues_of_guarded (by simp [State.guarded])

theorem continues_advance (s : State) : Continues s s.advance := by
  rw [advance_eq]
  refine continues_iar s _ fun h => ?_
  split
  · exact h
  · exact aligned_add_four _ h

theorem continues_branch (taken lk : Bool) (target : Word) (s : State) : Continues s (branch taken lk target s) := by
  rw [branch_eq]
  refine (continues_of_guarded rfl : Continues s { s with lr := if lk then s.iar + 4 else s.lr }).trans
    (continues_iar _ _ fun h => ?_)
  split_ifs
  · exact aligned_wordAlign _
  · exact h
  · exact aligned_add_four _ h

/-- A halt condition arises: the halt code takes its code only where it is 0. -/
theorem continues_raiseHalt (code : BitVec 3) (s : State) : Continues s (raiseHalt code s) where
  cfg := rfl
  inv hs := by
    rw [inv_iff] at *
    simp_all [State.controlConsistent]
  hcp _ := rfl
  hc hs := if_neg hs

/-! ### Interrupts and halts -/

/-- Interrupt entry: SRR0 and SRR1, then the MSR, of which bits are only cleared, then the IAR. -/
theorem continues_enter (o : BitVec 9) (c : Bool) (a : Word) (s : State) (ho : o.setWidth 32 &&& 3 = 0#32) :
    Continues s (enter o c a s) :=
  (continues_srr0 s a).trans <| (continues_srr1 _ _ id).trans <| (continues_msr _ _ (within_and_left _ _ _)).trans <|
    continues_iar _ _ fun _ => aligned_vector s.cfg o ho

theorem mcVec_aligned (v : Variant) : (mcVec v).setWidth 32 &&& 3 = 0#32 := by cases v <;> rfl

theorem exceptionOffset_aligned (e : Exception) : e.offset.setWidth 32 &&& 3 = 0#32 := by cases e <;> simp [Exception.offset]

theorem asyncOffset_aligned (a : Async) : a.offset.setWidth 32 &&& 3 = 0#32 := by cases a <;> rfl

theorem continues_haltAtVector (s : State) : Continues s (haltAtVector s) :=
  (continues_raiseHalt 3 s).trans (continues_of_guarded rfl)

theorem continues_recordMachineCheck (mfe : Bool) (mcs : BitVec 3) (s : State) :
    Continues s (recordMachineCheck mfe mcs s) :=
  continues_isr s _ fun h => within_setField _ _ _ _ (within_setBit _ _ _ _ h (by decide)) (by decide)

theorem continues_machineCheck (a : Word) (s : State) : Continues s (machineCheck a s) := by
  have henter := continues_enter (mcVec s.cfg.variant) true a s (mcVec_aligned _)
  unfold machineCheck
  split
  · exact henter
  · exact henter.trans (continues_haltAtVector _)

theorem continues_reportImprecise (s : State) : Continues s (reportImprecise s) :=
  ((continues_recordMachineCheck _ _ _).trans (continues_machineCheck _ _)).congr_left rfl

theorem continues_exceptionRecord (e : Exception) (s : State) : Continues s (e.record s) := by
  have hisr (i : Nat) (b : Bool) (a : Word) (hi : within (place (BitVec.allOnes 1) i) isrMask = true) :
      Continues s { s with isr := setBit s.isr i b, edr := a } :=
    (continues_isr s _ fun h => within_setBit _ _ i b h hi).trans (continues_of_guarded rfl)
  cases e with
  | program trap => exact hisr 24 trap s.ir (by decide)
  | isi => exact .refl s
  | dsi store a => exact hisr 25 store a (by decide)
  | align store a => exact hisr 25 store a (by decide)

theorem continues_dispatch (e : Exception) (s : State) : Continues s (dispatch e s) := by
  have hrecord := continues_exceptionRecord e s
  have henter := hrecord.trans (continues_enter e.offset false s.iar _ (exceptionOffset_aligned e))
  unfold dispatch
  split_ifs
  · exact henter
  · exact hrecord.trans <| (continues_recordMachineCheck _ _ _).trans (continues_machineCheck _ _)
  · exact henter.trans (continues_haltAtVector _)

/-- Where imprecise errors are pending their report takes the place of what would be done. -/
theorem continues_synchronised {s t : State} (h : Continues s t) : Continues s (synchronised s t) := by
  unfold synchronised
  split
  · exact h
  · exact continues_reportImprecise s

theorem continues_raise (e : Exception) (s : State) : Continues s (raise e s) :=
  continues_synchronised (continues_dispatch e s)

theorem continues_illegal (s : State) : Continues s (illegal s) := continues_raise _ s

theorem continues_dataMachineCheck (store : Bool) (a : Word) (s : State) : Continues s (dataMachineCheck store a s) :=
  continues_synchronised (((continues_recordMachineCheck _ _ _).trans (continues_machineCheck _ _)).congr_left rfl)

theorem continues_fetchMachineCheck (s : State) : Continues s (fetchMachineCheck s) :=
  continues_synchronised <| (continues_recordMachineCheck _ _ _).trans (continues_machineCheck _ _)

theorem continues_takeAsync (a : Async) (s : State) : Continues s (takeAsync a s) :=
  continues_synchronised (continues_enter a.offset false s.iar s (asyncOffset_aligned a))

/-- A debug event is recorded in bits of the XSR that the invariant leaves free. -/
theorem continues_recordDebug (e : DebugEvent) (s : State) : Continues s (recordDebug e s) := by
  cases e <;> exact ⟨rfl, id, id, fun _ => rfl⟩

theorem continues_debugHalt (e : DebugEvent) (s : State) : Continues s (debugHalt e s) :=
  (continues_recordDebug e s).trans <| (continues_raiseHalt 4 _).trans (continues_of_guarded rfl)

theorem continues_validForm {s t : State} (ok : Bool) (h : Continues s t) : Continues s (validForm ok s t) := by
  unfold validForm
  split
  · exact h
  · exact continues_illegal s

theorem continues_contextSync {s t : State} (h : Continues s t) : Continues s (contextSync s t) := by
  unfold contextSync
  split
  · exact h
  · exact continues_synchronised h

theorem continues_returnFromInterrupt (s : State) : Continues s (returnFromInterrupt s) :=
  (continues_msr s _ fun _ => within_and_mask _ _).trans (continues_iar _ _ fun _ => aligned_wordAlign _)

/-! ### Requests to memory -/

/-- The same of a request to memory, done or abandoned. -/
def Access.Continues {α : Type} (s : State) : Access α → Prop
  | .done _ t => Machine.Continues s t
  | .taken t => Machine.Continues s t

theorem continues_dataError (q : Request) (a : Word) (s : State) : (dataError q a s).Continues s := by
  unfold dataError
  split
  · exact continues_of_guarded rfl
  · exact continues_dataMachineCheck q.mcs a s

theorem continues_writeBackError (line : Word) (s : State) : (writeBackError line s).Continues s := by
  have h := continues_dataError .store line s
  unfold writeBackError
  split
  next heq => rw [heq] at h; exact h
  next heq => rw [heq] at h; exact h

theorem continues_sibComplete (c : BitVec 3) (s : State) : Continues s (sibComplete c s) := by
  have hbit : ∀ c : BitVec 3, within (place (BitVec.allOnes 1) (24 + c.toNat)) msrMask = true := by decide
  exact continues_msr s _ fun h => within_setBit _ _ _ _ (within_setField _ _ _ _ h (by decide)) (hbit c)

theorem Access.Continues.after {α : Type} {s t : State} {r : Access α} (hr : r.Continues t) (h : Machine.Continues s t) :
    r.Continues s := by
  cases r with
  | done _ u => exact h.trans hr
  | taken u => exact h.trans hr

theorem continues_sibAccess (q : Request) (a : Word) (c : BitVec 3) (s : State) : (sibAccess q a c s).Continues s := by
  have h := continues_sibComplete c s
  unfold sibAccess
  split_ifs
  · exact h
  · exact h
  · exact (continues_dataError q a _).after h

theorem continues_request (q : Request) (a : Word) (reply : DataReply) (s : State) : (request q a reply s).Continues s := by
  have hnow {r : Access Grant} (h : r.Continues s) :
      (if s.reportsNow then Access.taken (reportImprecise s) else r).Continues s := by
    split
    · exact continues_reportImprecise s
    · exact h
  unfold request
  split
  · exact continues_debugHalt _ s
  · cases reply with
    | ok => exact hnow (.refl s)
    | dsi => exact continues_raise _ s
    | align => exact continues_raise _ s
    | error => exact hnow (continues_dataError q a s)
    | writeBack line => exact hnow (continues_writeBackError line s)
    | sib c => exact hnow (continues_sibAccess q a c s)

theorem continues_memRead (w : Width) (a : Word) (s : State) : (memRead w a s).Continues s := by
  have h := continues_request .load a (s.sys.dataReply false a w.bytes) s
  unfold memRead
  split
  next heq => rw [heq] at h; exact h
  next heq => rw [heq] at h; exact Machine.Continues.trans h (continues_of_guarded rfl)
  next heq => rw [heq] at h; exact h

theorem continues_writeMem (w : Width) (a : Word) (v : Dword) (s : State) :
    Continues s { s with mem := writeMem w s.mem a v } := continues_mem s _ (writeMem_canonical w s.mem a v)

theorem continues_memWrite (w : Width) (a : Word) (v : Dword) (s : State) : (memWrite w a v s).Continues s := by
  have h := continues_request .store a (s.sys.dataReply true a w.bytes) s
  unfold memWrite
  split
  next heq => rw [heq] at h; exact h
  next heq => rw [heq] at h; exact Machine.Continues.trans h (continues_writeMem w a v _)
  next t heq =>
    rw [heq] at h
    exact Machine.Continues.trans h ((continues_writeMem w a (freeDword t.free) _).trans (continues_of_guarded rfl))
  next heq => rw [heq] at h; exact h

/-- What is done after a request, which an abandoned one leaves out. -/
def Access.andThen {α : Type} (r : Access α) (f : α → State → State) : State :=
  match r with
  | .done a t => f a t
  | .taken t => t

@[simp] theorem andThen_done {α : Type} (a : α) (t : State) (f : α → State → State) : (Access.done a t).andThen f = f a t := rfl
@[simp] theorem andThen_taken {α : Type} (t : State) (f : α → State → State) : (Access.taken t).andThen f = t := rfl

theorem Access.Continues.andThen {α : Type} {s : State} {r : Access α} (hr : r.Continues s) {f : α → State → State}
    (hf : ∀ a t, Machine.Continues t (f a t)) : Machine.Continues s (r.andThen f) := by
  cases r with
  | done a t => exact Machine.Continues.trans hr (hf a t)
  | taken t => exact hr

theorem loadGpr_eq (w : Width) (rt : Gpr) (ea : Word) (s : State) :
    loadGpr w rt ea s = (memRead w ea s).andThen fun v t => (t.setReg rt (dwordLo v)).advance := by
  unfold loadGpr
  cases memRead w ea s <;> rfl

theorem loadGprUpdate_eq (w : Width) (rt ra : Gpr) (ea : Word) (s : State) :
    loadGprUpdate w rt ra ea s = (memRead w ea s).andThen fun v t => ((t.setReg ra ea).setReg rt (dwordLo v)).advance := by
  unfold loadGprUpdate
  cases memRead w ea s <;> rfl

theorem loadVdr_eq (dt : Vdr) (ea : Word) (s : State) :
    loadVdr dt ea s = (memRead .dword ea s).andThen fun v t => (t.setVdr dt v).advance := by
  unfold loadVdr
  cases memRead .dword ea s <;> rfl

theorem loadVdrUpdate_eq (dt : Vdr) (ra : Gpr) (ea : Word) (s : State) :
    loadVdrUpdate dt ra ea s = (memRead .dword ea s).andThen fun v t => ((t.setReg ra ea).setVdr dt v).advance := by
  unfold loadVdrUpdate
  cases memRead .dword ea s <;> rfl

theorem storeValue_eq (w : Width) (v : Dword) (ea : Word) (s : State) :
    storeValue w v ea s = (memWrite w ea v s).andThen fun _ t => t.advance := by
  unfold storeValue
  cases memWrite w ea v s <;> rfl

theorem storeUpdate_eq (w : Width) (v : Dword) (ra : Gpr) (ea : Word) (s : State) :
    storeUpdate w v ra ea s = (memWrite w ea v s).andThen fun _ t => (t.setReg ra ea).advance := by
  unfold storeUpdate
  cases memWrite w ea v s <;> rfl

theorem cacheOp_eq (q : Request) (reply : DataReply) (ea : Word) (s : State) :
    cacheOp q reply ea s = (request q ea reply s).andThen fun _ t => t.advance := by
  unfold cacheOp
  cases request q ea reply s <;> rfl

theorem popFrame_eq (sp : Gpr) (xs : List Slot) (dd : BitVec 13) (s : State) :
    popFrame sp xs dd s =
      let ea := s.reg sp + stackDisp dd
      (popSlots sp xs (ea - 8) { s with edr := ea }).andThen fun _ t =>
        (memRead .word (ea + 4) t).andThen fun v u => ({ u with lr := dwordLo v }.setReg sp ea).advance := by
  simp only [popFrame]
  cases popSlots sp xs (s.reg sp + stackDisp dd - 8) { s with edr := s.reg sp + stackDisp dd } with
  | taken t => rfl
  | done _ t =>
    simp only [andThen_done]
    cases memRead .word (s.reg sp + stackDisp dd + 4) t <;> rfl

theorem pushFrame_eq (sp : Gpr) (xs : List Slot) (dd : BitVec 13) (s : State) :
    pushFrame sp xs dd s =
      let old := s.reg sp
      let ea := old + stackDisp dd
      (memWrite .word (old + 4) (s.lr.setWidth 64) s).andThen fun _ t =>
        (pushSlots xs (old - 8) { t with edr := old }).andThen fun _ u =>
          (memWrite .word ea (old.setWidth 64) u).andThen fun _ v => synchronised v (v.setReg sp ea).advance := by
  simp only [pushFrame]
  cases memWrite .word (s.reg sp + 4) (s.lr.setWidth 64) s with
  | taken t => rfl
  | done _ t =>
    simp only [andThen_done]
    cases pushSlots xs (s.reg sp - 8) { t with edr := s.reg sp } with
    | taken u => rfl
    | done _ u =>
      simp only [andThen_done]
      cases memWrite .word (s.reg sp + stackDisp dd) ((s.reg sp).setWidth 64) u <;> rfl

/-! ### The parts of instructions -/

theorem continues_arithResult (carrying oe rc : Bool) (rt : Gpr) (m : Sum) (s : State) :
    Continues s (arithResult carrying oe rc rt m s) := by
  have hcarry : Continues (s.setReg rt m.result) (if carrying then setCA m.ca (s.setReg rt m.result) else s.setReg rt m.result) := by
    split
    · exact continues_setCA _ _
    · exact .refl _
  exact (continues_setReg rt m.result s).trans <| hcarry.trans <| (continues_overflow oe m.ov _).trans <|
    (continues_record rc m.result _).trans (continues_advance _)

theorem continues_logicalForm (rc : Bool) (ra : Gpr) (r : Word) (s : State) : Continues s (logicalForm rc ra r s) :=
  (continues_setReg ra r s).trans <| (continues_record rc r _).trans (continues_advance _)

theorem continues_rotateDwordForm (rc : Bool) (da : Vdr) (v : Dword) (s : State) : Continues s (rotateDwordForm rc da v s) :=
  (continues_setVdr da v s).trans <| (continues_recordDword rc v _).trans (continues_advance _)

theorem continues_setReg_advance (r : Gpr) (v : Word) (s : State) : Continues s (s.setReg r v).advance :=
  (continues_setReg r v s).trans (continues_advance _)

theorem continues_setVdr_advance (d : Vdr) (v : Dword) (s : State) : Continues s (s.setVdr d v).advance :=
  (continues_setVdr d v s).trans (continues_advance _)

theorem continues_cmpCR0_advance (a b : Word) (signed : Bool) (s : State) : Continues s (cmpCR0 a b signed s).advance :=
  (continues_cmpCR0 a b signed s).trans (continues_advance _)

theorem continues_loadGpr (w : Width) (rt : Gpr) (ea : Word) (s : State) : Continues s (loadGpr w rt ea s) := by
  rw [loadGpr_eq]
  exact (continues_memRead w ea s).andThen fun _ t => continues_setReg_advance _ _ t

theorem continues_loadGprUpdate (w : Width) (rt ra : Gpr) (ea : Word) (s : State) : Continues s (loadGprUpdate w rt ra ea s) := by
  rw [loadGprUpdate_eq]
  exact (continues_memRead w ea s).andThen fun _ t => (continues_setReg ra ea t).trans (continues_setReg_advance _ _ _)

theorem continues_loadVdr (dt : Vdr) (ea : Word) (s : State) : Continues s (loadVdr dt ea s) := by
  rw [loadVdr_eq]
  exact (continues_memRead .dword ea s).andThen fun _ t => continues_setVdr_advance _ _ t

theorem continues_loadVdrUpdate (dt : Vdr) (ra : Gpr) (ea : Word) (s : State) : Continues s (loadVdrUpdate dt ra ea s) := by
  rw [loadVdrUpdate_eq]
  exact (continues_memRead .dword ea s).andThen fun _ t => (continues_setReg ra ea t).trans (continues_setVdr_advance _ _ _)

theorem continues_storeValue (w : Width) (v : Dword) (ea : Word) (s : State) : Continues s (storeValue w v ea s) := by
  rw [storeValue_eq]
  exact (continues_memWrite w ea v s).andThen fun _ t => continues_advance t

theorem continues_storeUpdate (w : Width) (v : Dword) (ra : Gpr) (ea : Word) (s : State) :
    Continues s (storeUpdate w v ra ea s) := by
  rw [storeUpdate_eq]
  exact (continues_memWrite w ea v s).andThen fun _ t => continues_setReg_advance ra ea t

theorem continues_compareBranch (signed px : Bool) (bix : BitVec 2) (ra : Gpr) (b : Word) (bdx : BitVec 10) (lk : Bool)
    (s : State) : Continues s (compareBranch signed px bix ra b bdx lk s) := by
  have hback (t : State) (v : Word) : Continues t (if bix = 3 then t.setReg ra v else t) := by
    split
    · exact continues_setReg ra v t
    · exact .refl t
  exact (continues_cmpCR0 _ b signed s).trans <| (hback _ _).trans (continues_branch _ lk _ _)

theorem continues_decrementCtr (bo : BitVec 5) (s : State) : Continues s (decrementCtr bo s) := by
  unfold decrementCtr
  split
  · exact .refl s
  · exact continues_of_guarded rfl

theorem continues_setRegUnless (sp r : Gpr) (v : Word) (s : State) : Continues s (setRegUnless sp r v s) := by
  unfold setRegUnless
  split
  · exact .refl s
  · exact continues_setReg r v s

theorem continues_loadSlot (sp : Gpr) (x : Slot) (v : Dword) (s : State) : Continues s (loadSlot sp x v s) := by
  cases x with
  | vdr d => exact (continues_setRegUnless sp d.high _ s).trans (continues_setRegUnless sp d.low _ _)
  | srr => exact (continues_srr0 s _).trans (continues_srr1 _ _ fun _ => within_and_mask _ _)
  | xerCtr => exact continues_of_guarded rfl
  | crSprg0 => exact continues_of_guarded rfl

theorem continues_popSlots (sp : Gpr) (xs : List Slot) (a : Word) (s : State) : (popSlots sp xs a s).Continues s := by
  induction xs generalizing a s with
  | nil => exact Continues.refl s
  | cons x xs ih =>
    have h := continues_memRead .dword a s
    unfold popSlots
    cases hread : memRead .dword a s with
    | done v t =>
      rw [hread] at h
      exact (ih (a - 8) _).after (Continues.trans h (continues_loadSlot sp x v t))
    | taken t =>
      rw [hread] at h
      exact h

theorem continues_pushSlots (xs : List Slot) (a : Word) (s : State) : (pushSlots xs a s).Continues s := by
  induction xs generalizing a s with
  | nil => exact Continues.refl s
  | cons x xs ih =>
    have h := continues_memWrite .dword a (slotValue x s) s
    unfold pushSlots
    cases hwrite : memWrite .dword a (slotValue x s) s with
    | done _ t =>
      rw [hwrite] at h
      exact (ih (a - 8) t).after h
    | taken t =>
      rw [hwrite] at h
      exact h

theorem continues_popFrame (sp : Gpr) (xs : List Slot) (dd : BitVec 13) (s : State) : Continues s (popFrame sp xs dd s) := by
  have hedr : Continues s { s with edr := s.reg sp + stackDisp dd } := continues_of_guarded rfl
  rw [popFrame_eq]
  refine ((continues_popSlots sp xs _ _).after hedr).andThen fun _ t => (continues_memRead .word _ t).andThen fun _ u => ?_
  exact (continues_setReg_advance _ _ _).congr_left rfl

theorem continues_pushFrame (sp : Gpr) (xs : List Slot) (dd : BitVec 13) (s : State) : Continues s (pushFrame sp xs dd s) := by
  have hedr (t : State) : Continues t { t with edr := s.reg sp } := continues_of_guarded rfl
  rw [pushFrame_eq]
  exact (continues_memWrite .word _ _ s).andThen fun _ t =>
    ((continues_pushSlots xs _ _).after (hedr t)).andThen fun _ u =>
      (continues_memWrite .word _ _ u).andThen fun _ v => continues_synchronised (continues_setReg_advance _ _ v)

theorem continues_stackForm {s t : State} (form store : Bool) (sp : Gpr) (h : Continues s t) :
    Continues s (stackForm form store sp s t) := by
  refine continues_validForm _ ?_
  split
  · exact h
  · exact continues_raise _ s

end Sys2Proof.Machine
end

section
/-! PROOFS. Every step answers a next state and keeps the invariant and the configured parameters (00_scope.md R9; 10_state.md R70). -/

namespace Sys2Proof.Machine

/-! ### Writes of SPRs -/

theorem continues_beginReset (k : ResetKind) (hreset : Bool) (s : State) : Continues s (beginReset k hreset s) := by
  unfold beginReset
  split
  · exact (continues_isr s _ fun h => within_setField s.isr isrMask 16 s.sms h (by decide)).trans (continues_of_guarded rfl)
  · exact continues_of_guarded rfl

theorem continues_writeDec (v : Word) (s : State) : Continues s (writeDec v s) := by
  have hdec : Continues s { s with dec := v } := continues_of_guarded rfl
  refine hdec.trans (continues_tsr _ (if !bitAt s.dec 0 && bitAt v 0 then setBit s.tsr 4 true else s.tsr) fun h => ?_)
  split
  · exact within_setBit _ _ _ _ h (by decide)
  · exact h

theorem continues_writeTsr (v : Word) (s : State) : Continues s (writeTsr v s) := by
  refine continues_tsr s _ fun h => ?_
  split
  · exact within_and_mask _ _
  · exact within_and_left _ _ _ h

theorem continues_writeDbcr (v : Word) (s : State) : Continues s (writeDbcr v s) := by
  have hfields := continues_dbcr s (v &&& dbcrMask s.cfg.variant) (within_and_mask _ _)
  unfold writeDbcr
  dsimp only
  split
  · exact hfields
  · exact hfields.trans (continues_beginReset _ _ _)
  · exact hfields.trans (continues_beginReset _ _ _)
  · exact hfields.trans ((continues_raiseHalt 5 _).congr_left rfl)

theorem continues_writeSpr (n : BitVec 10) (v : Word) (s t : State) (h : writeSpr n v s = some t) : Continues s t := by
  unfold writeSpr at h
  split at h <;> cases h
  · exact continues_of_guarded rfl
  · exact continues_of_guarded rfl
  · exact continues_of_guarded rfl
  · exact continues_writeDec v s
  · exact continues_srr0 s v
  · exact continues_srr1 s _ fun _ => within_and_mask _ _
  · exact continues_of_guarded rfl
  · exact continues_isr s _ fun _ => within_and_mask _ _
  · exact continues_of_guarded rfl
  · exact continues_writeDbcr v s
  · exact continues_of_guarded rfl
  · exact continues_writeTsr v s
  · exact continues_tcr s _ fun _ => within_and_mask _ _

/-! ### Every instruction -/

theorem continues_cacheOp (q : Request) (reply : DataReply) (ea : Word) (s : State) : Continues s (cacheOp q reply ea s) := by
  rw [cacheOp_eq]
  exact (continues_request q ea reply s).andThen fun _ t => continues_advance t

theorem exec_dcbz_continues (ra rb : Gpr) (s : State) : ∃ t, exec (.dcbz ra rb) s = .next t ∧ Continues s t := by
  refine ⟨_, rfl, ?_⟩
  have h := continues_request .store (eaX s ra rb) (dcbzReply (eaX s ra rb) s) s
  split
  next t heq =>
    rw [heq] at h
    exact Continues.trans h ((continues_mem t _ (zeroBytes_wf _ _ _)).trans (continues_advance _))
  next t heq =>
    rw [heq] at h
    exact Continues.trans h <| (continues_mem t _ (fillBytes_wf _ _ _ _)).trans <|
      (continues_advance _).congr_left rfl
  next t heq =>
    rw [heq] at h
    exact Continues.trans h (continues_advance t)
  next t heq =>
    rw [heq] at h
    exact h

theorem exec_dcbq_continues (rt ra rb : Gpr) (s : State) : ∃ t, exec (.dcbq rt ra rb) s = .next t ∧ Continues s t := by
  refine ⟨_, rfl, ?_⟩
  have h := continues_request .load (eaX s ra rb) (queryReply (eaX s ra rb) s) s
  split
  next t heq =>
    rw [heq] at h
    exact h
  next t heq =>
    rw [heq] at h
    exact Continues.trans h ((continues_setReg_advance _ _ _).congr_left rfl)
  next t heq =>
    rw [heq] at h
    exact Continues.trans h (continues_setReg_advance _ _ _)

theorem exec_tw_continues (cond ra rb : BitVec 5) (tg : Bool) (s : State) :
    ∃ t, exec (.tw cond ra rb tg) s = .next t ∧ Continues s t := by
  refine ⟨_, rfl, ?_⟩
  split_ifs
  · exact continues_advance s
  · exact continues_illegal s
  · exact continues_advance s
  · exact continues_illegal s
  · exact continues_debugHalt .trap s
  · exact continues_raise _ s

/-- Every instruction answers a next state that keeps the parameters, the invariant, a halt condition and a locked halt code. -/
theorem exec_continues (i : Instr) (s : State) : ∃ t, exec i s = .next t ∧ Continues s t := by
  cases i with
  | add | addc | adde | addic | addicDot | addme | addze | subf | subfc | subfe | subfic | subfme | subfze | neg =>
    exact ⟨_, rfl, continues_arithResult ..⟩
  | addi | addis | mfcr => exact ⟨_, rfl, continues_setReg_advance ..⟩
  | mulli => exact ⟨_, rfl, continues_validForm _ (continues_setReg_advance ..)⟩
  | mullw => exact ⟨_, rfl, continues_validForm _ (continues_arithResult ..)⟩
  | mullhw | mullhwu | and | andc | or | orc | xor | nand | nor | eqv | andiDot | andisDot | ori | oris | xori | xoris | extsb
  | extsh | cntlzw | rlwimi | rlwinm | rlwnm | slw | srw => exact ⟨_, rfl, continues_logicalForm ..⟩
  | sraw | srawi => exact ⟨_, rfl, (continues_setCA _ s).trans (continues_logicalForm ..)⟩
  | rldicl | rldicr | rldimi | slvd | srvd => exact ⟨_, rfl, continues_validForm _ (continues_rotateDwordForm ..)⟩
  | cmpw | cmplw | cmpwi | cmplwi => exact ⟨_, rfl, continues_cmpCR0_advance ..⟩
  | b => exact ⟨_, rfl, continues_branch ..⟩
  | bc | bclr => exact ⟨_, rfl, continues_validForm _ ((continues_decrementCtr ..).trans (continues_branch ..))⟩
  | bcctr => exact ⟨_, rfl, continues_validForm _ (continues_branch ..)⟩
  | cmpwbc | cmplwbc | cmpwibc => exact ⟨_, rfl, continues_compareBranch ..⟩
  | bnbwi | bnbw => exact ⟨_, rfl, (continues_setCR0 _ s).trans (continues_branch ..)⟩
  | clrbwibc | clrbwbc =>
    exact ⟨_, rfl, (continues_setReg _ _ s).trans ((continues_setCR0 ..).trans (continues_branch ..))⟩
  | lbz | lbzx | lhz | lhzx | lwz | lwzx => exact ⟨_, rfl, continues_loadGpr ..⟩
  | lbzu | lhzu | lwzu => exact ⟨_, rfl, continues_validForm _ (continues_loadGprUpdate ..)⟩
  | lvd | lvdx => exact ⟨_, rfl, continues_loadVdr ..⟩
  | lvdu => exact ⟨_, rfl, continues_validForm _ (continues_loadVdrUpdate ..)⟩
  | stb | stbx | sth | sthx | stw | stwx | stvd | stvdx => exact ⟨_, rfl, continues_storeValue ..⟩
  | stbu | sthu | stwu | stvdu => exact ⟨_, rfl, continues_validForm _ (continues_storeUpdate ..)⟩
  | lsku | lcxu => exact ⟨_, rfl, continues_stackForm _ _ _ (continues_popFrame ..)⟩
  | stsku | stcxu => exact ⟨_, rfl, continues_stackForm _ _ _ (continues_pushFrame ..)⟩
  | dcbf | dcbi | dcbt => exact ⟨_, rfl, continues_cacheOp ..⟩
  | dcbz ra rb => exact exec_dcbz_continues ra rb s
  | dcbq rt ra rb => exact exec_dcbq_continues rt ra rb s
  | sync => exact ⟨_, rfl, continues_synchronised (continues_advance s)⟩
  | mtcrf => exact ⟨_, rfl, (continues_advance _).congr_left rfl⟩
  | mfmsr => exact ⟨_, rfl, continues_contextSync (continues_setReg_advance ..)⟩
  | mtmsr =>
    exact ⟨_, rfl, continues_contextSync ((continues_msr s _ fun _ => within_and_mask _ _).trans (continues_advance _))⟩
  | mfspr rt sprn =>
    refine ⟨_, rfl, ?_⟩
    split
    · exact continues_setReg_advance ..
    · exact continues_illegal s
  | mtspr sprn rs =>
    refine ⟨_, rfl, ?_⟩
    split
    next t hwrite => exact (continues_writeSpr _ _ s t hwrite).trans (continues_advance t)
    next => exact continues_illegal s
  | rfi => exact ⟨_, rfl, continues_contextSync (continues_returnFromInterrupt s)⟩
  | tw cond ra rb tg => exact exec_tw_continues cond ra rb tg s
  | wrtee | wrteei =>
    exact ⟨_, rfl, (continues_msr s _ fun h => within_setBit _ _ _ _ h (by decide)).trans (continues_advance _)⟩

/-! ### A pass of the processing order -/

theorem runWord_continues (w : Word) (s : State) : ∃ t, runWord w s = .next t ∧ Continues s t := by
  unfold runWord
  split
  next i _ => exact exec_continues i s
  next => exact ⟨_, rfl, continues_illegal s⟩

theorem continues_fetch (s : State) : (fetch s).Continues s := by
  unfold fetch
  split
  · exact Continues.refl s
  · exact continues_raise .isi s
  · exact continues_fetchMachineCheck s
  next c _ =>
    split
    · exact Continues.refl s
    · exact (continues_sibComplete c s).trans (continues_fetchMachineCheck _)

theorem continues_fetchNext (s : State) : (fetchNext s).Continues s := by
  unfold fetchNext
  split
  next a _ => exact continues_takeAsync a s
  next =>
    split_ifs
    · exact Continues.refl s
    · exact continues_debugHalt .iac s
    · have h := continues_fetch s
      split
      next t heq =>
        rw [heq] at h
        exact Continues.trans h (continues_of_guarded rfl)
      next t heq =>
        rw [heq] at h
        exact h

theorem onePass_continues (s : State) : ∃ t, onePass s = .next t ∧ Continues s t := by
  have hfetch := continues_fetchNext s
  unfold onePass
  split
  next w t heq =>
    rw [heq] at hfetch
    obtain ⟨u, hrun, hu⟩ := runWord_continues w t
    exact ⟨u, hrun, Continues.trans hfetch hu⟩
  next t heq =>
    rw [heq] at hfetch
    exact ⟨t, rfl, hfetch⟩

/-- The end of an instruction leaves a core that has no halt condition with no halt code either. -/
theorem continues_endInstruction (s : State) : Continues s (endInstruction s) where
  cfg := rfl
  inv hs := by
    rw [inv_iff] at *
    simp only [State.controlConsistent, endInstruction, Bool.or_eq_true, Bool.and_eq_true] at hs ⊢
    tauto
  hcp := id
  hc _ := rfl

/-- A step of the core out of reset ends an instruction, or the core is halted and stays as it is. -/
theorem instructionStep_continues (s : State) :
    (s.halted = true ∧ instructionStep s = .next s) ∨
      (s.halted = false ∧ ∃ t, instructionStep s = .next (endInstruction t) ∧ Continues s t) := by
  unfold instructionStep
  cases hhalted : s.halted with
  | true => exact .inl ⟨rfl, rfl⟩
  | false =>
    refine .inr ⟨rfl, ?_⟩
    cases s.xsr.rip with
    | true =>
      obtain ⟨t, hrun, ht⟩ := runWord_continues s.ir s
      exact ⟨t, by simp [hrun, finish], ht⟩
    | false =>
      obtain ⟨t, hrun, ht⟩ := onePass_continues s
      exact ⟨t, by simp [hrun, finish], ht⟩

/-! ### The environment and resets -/

/-- What every step keeps: the configured parameters and the invariant. A halt condition may end. -/
structure Keeps (s t : State) : Prop where
  cfg : t.cfg = s.cfg
  inv : s.Inv → t.Inv

theorem Continues.keeps {s t : State} (h : Continues s t) : Keeps s t := ⟨h.cfg, h.inv⟩

theorem keeps_of_guarded {s t : State} (h : t.guarded = s.guarded) : Keeps s t := (continues_of_guarded h).keeps

theorem Keeps.congr_right {s t u : State} (h : Keeps s t) (hg : u.guarded = t.guarded) : Keeps s u :=
  ⟨(continues_of_guarded hg).cfg.trans h.cfg, (continues_of_guarded hg).inv ∘ h.inv⟩

theorem Keeps.trans {s t u : State} (h : Keeps s t) (k : Keeps t u) : Keeps s u := ⟨k.cfg.trans h.cfg, k.inv ∘ h.inv⟩

/-- The XSR written: the control bits are consistent afterwards where they were before. -/
theorem keeps_xsr (s : State) (x : Xsr)
    (h : s.controlConsistent = true → State.controlConsistent { s with xsr := x } = true) : Keeps s { s with xsr := x } where
  cfg := rfl
  inv hs := by
    rw [inv_iff] at *
    obtain ⟨hmem, hiar, hsrr0, hmsr, hsrr1, hisr, htsr, htcr, hdbcr, hcontrol⟩ := hs
    exact ⟨hmem, hiar, hsrr0, hmsr, hsrr1, hisr, htsr, htcr, hdbcr, h hcontrol⟩

theorem keeps_forceHalt (code : BitVec 3) (s : State) : Keeps s (forceHalt code s) :=
  (keeps_of_guarded rfl : Keeps s { s with resetting := none }).trans
    (keeps_xsr _ { s.xsr with rip := false, sip := false, hcp := true, hc := if s.xsr.hc = 0 then code else s.xsr.hc }
      fun _ => rfl)

theorem continues_updateTsr (f : Word → Word) (s : State) (h : within s.tsr tsrMask = true → within (f s.tsr) tsrMask = true) :
    Continues s (updateTsr f s) := by
  unfold updateTsr
  split
  · exact .refl s
  · exact continues_tsr s _ h

theorem continues_decrement (s : State) : Continues s (decrement s) := by
  have hdec : Continues s { s with dec := s.dec - 1 } := continues_of_guarded rfl
  unfold decrement
  dsimp only
  split
  · exact hdec.trans (continues_updateTsr _ _ fun h => within_setBit _ _ _ _ h (by decide))
  · exact hdec

theorem tcr_wrc_within (v : Variant) : within (place (BitVec.allOnes 2) 2) (tcrMask v) = true := by cases v <;> decide

theorem keeps_watchdogAction (s : State) : Keeps s (watchdogAction s) := by
  have hwrc (t : State) : Continues t { t with tcr := setField t.tcr 2 (0 : BitVec 2), out := { t.out with watchdogTimeout := true } } :=
    (continues_tcr t _ fun h => within_setField _ _ _ _ h (tcr_wrc_within _)).trans (continues_of_guarded rfl)
  have hstatus := (continues_updateTsr (fun w => setField w 2 (bits s.tcr 2 2)) s
    fun h => within_setField _ _ _ _ h (by decide)).trans (hwrc _)
  unfold watchdogAction
  dsimp only
  split_ifs
  · exact (Continues.refl s).keeps
  · exact (hstatus.trans (continues_beginReset _ _ _)).keeps
  · exact (hstatus.trans (continues_beginReset _ _ _)).keeps
  · exact (hstatus.keeps.trans (keeps_forceHalt 2 _)).congr_right rfl

theorem keeps_watchdogEvent (s : State) : Keeps s (watchdogEvent s) := by
  unfold watchdogEvent
  split_ifs
  · exact (continues_updateTsr _ s fun h => within_setBit _ _ _ _ h (by decide)).keeps
  · exact (continues_updateTsr _ s fun h => within_setBit _ _ _ _ h (by decide)).keeps
  · exact keeps_watchdogAction s

theorem keeps_timerCycle (timer : BitVec 4) (decTimer : Bool) (s : State) : Keeps s (timerCycle timer decTimer s) := by
  have hdec : Keeps s (if decCounts timer decTimer s then decrement s else s) := by
    split
    · exact (continues_decrement s).keeps
    · exact (Continues.refl s).keeps
  have hfit (n : Nat) (t : State) :
      Keeps t (if timerInput timer n then updateTsr (fun w => setBit w 5 true) t else t) := by
    split
    · exact (continues_updateTsr _ t fun h => within_setBit _ _ _ _ h (by decide)).keeps
    · exact (Continues.refl t).keeps
  have hwatchdog (n : Nat) (t : State) : Keeps t (if timerInput timer n then watchdogEvent t else t) := by
    split
    · exact keeps_watchdogEvent t
    · exact (Continues.refl t).keeps
  unfold timerCycle
  split
  · exact (Continues.refl s).keeps
  · exact hdec.trans ((hfit _ _).trans (hwatchdog _ _))

theorem keeps_applyReset (r : ResetState) (s : State) : Keeps s (applyReset r s) where
  cfg := rfl
  inv hs := by
    rw [inv_iff] at *
    obtain ⟨hmem, hiar, hsrr0, hmsr, hsrr1, hisr, htsr, htcr, -, -⟩ := hs
    have hcontrol : (applyReset r s).controlConsistent = true := by simp [State.controlConsistent, applyReset]
    exact ⟨hmem, hiar, hsrr0, hmsr, hsrr1, hisr, htsr, within_setField _ _ _ _ htcr (tcr_wrc_within _), by simp [within, applyReset],
      hcontrol⟩

theorem keeps_takeReset (s : State) : Keeps s (takeReset s) :=
  (keeps_of_guarded rfl : Keeps s { s with resetting := none, pending := [] }).trans
    (continues_enter 0x040 true s.iar _ (by decide)).keeps

theorem keeps_resetStep (r : ResetState) (s : State) : Keeps s (resetStep r s) := by
  have hrefl := (Continues.refl s).keeps
  have happlied : Keeps s (if r.applied then s else applyReset r s) := by
    split
    · exact hrefl
    · exact keeps_applyReset r s
  have hack (t : State) : Keeps t (if t.sys.resetAck then takeReset t else t) := by
    split
    · exact keeps_takeReset t
    · exact (Continues.refl t).keeps
  unfold resetStep
  split
  · exact hrefl
  · exact happlied.trans (hack _)

/-- The control bits of a halted core: it has a halt condition, and neither rams nor steps (62_debug_xir.md R621). -/
theorem halted_iff (s : State) : s.halted = true ↔
    s.xsr.hcp = true ∧ s.xsr.rip = false ∧ s.xsr.sip = false ∧ s.resetting = none := by
  simp [State.halted, and_assoc]

theorem keeps_perform (c : XcrCommand) (s : State) (h : c.accepted s = true) : Keeps s (c.perform s) := by
  cases c with
  | clearDebug => exact keeps_xsr s _ id
  | halt => exact keeps_xsr s _ fun hs => by simp_all [State.controlConsistent]
  | resume =>
    refine keeps_xsr s _ fun hs => ?_
    simp only [XcrCommand.accepted, Bool.or_eq_true, halted_iff] at h
    obtain ⟨-, hrip, hsip, -⟩ | hhcp := h
    · simp [State.controlConsistent, hrip, hsip]
    · simp_all [State.controlConsistent]
  | singleStep =>
    obtain ⟨hhcp, hrip, -, -⟩ := (halted_iff s).1 h
    exact keeps_xsr s _ fun hs => by simp [State.controlConsistent, hhcp, hrip]
  | toggleTrh => exact keeps_xsr s _ id
  | softReset => exact (continues_beginReset _ _ s).keeps
  | hardReset => exact (continues_beginReset _ _ s).keeps
  | forceHalt => exact keeps_forceHalt 1 s

/-- A halted core may take any halt code, and may ram. -/
theorem keeps_writeXsr (w : Word) (s : State) (h : s.halted = true) : Keeps s (writeXsr w s) := by
  obtain ⟨hhcp, hrip, -, -⟩ := (halted_iff s).1 h
  unfold writeXsr
  split
  · exact keeps_xsr s _ fun _ => by simp [State.controlConsistent, hhcp, hrip]
  · exact (Continues.refl s).keeps

theorem keeps_writeIr (w : Word) (s : State) (h : s.halted = true) : Keeps s (writeIr w s) := by
  obtain ⟨hhcp, -, hsip, -⟩ := (halted_iff s).1 h
  have hir : Continues s { s with ir := w } := continues_of_guarded rfl
  exact hir.keeps.trans (keeps_xsr _ { s.xsr with rip := true, hc := 0 } fun _ => by simp [State.controlConsistent, hhcp, hsip])

theorem accepted_sprg0 (c : XcrCommand) (s : State) (v : Word) : c.accepted { s with sprg0 := v } = c.accepted s := by
  cases c <;> rfl

theorem keeps_xirWritePair (p : XirPair) (v : Dword) (s t : State) (h : xirWritePair p v s = some t) : Keeps s t := by
  have hsprg0 : Keeps s { s with sprg0 := dwordLo v } := keeps_of_guarded rfl
  cases p with
  | xcrCtr =>
    obtain ⟨hc, ht⟩ := Option.ite_none_right_eq_some.1 h
    cases ht
    exact keeps_perform _ s hc
  | xcrSprg0 =>
    obtain ⟨hc, ht⟩ := Option.ite_none_right_eq_some.1 h
    cases ht
    obtain ⟨-, hc⟩ := Bool.and_eq_true_iff.1 hc
    exact hsprg0.trans (keeps_perform _ _ ((accepted_sprg0 _ s _).trans hc))
  | irSprg0 =>
    obtain ⟨hhalted, ht⟩ := Option.ite_none_right_eq_some.1 h
    cases ht
    exact hsprg0.trans (keeps_writeIr _ _ hhalted)
  | xsrSprg0 =>
    obtain ⟨hhalted, ht⟩ := Option.ite_none_right_eq_some.1 h
    cases ht
    exact hsprg0.trans (keeps_writeXsr _ _ hhalted)
  | irEdr =>
    obtain ⟨hhalted, ht⟩ := Option.ite_none_right_eq_some.1 h
    cases ht
    exact keeps_writeIr _ s hhalted
  | xsrIar =>
    obtain ⟨hhalted, ht⟩ := Option.ite_none_right_eq_some.1 h
    cases ht
    exact (continues_iar s _ fun _ => aligned_wordAlign (dwordLo v)).keeps.trans (keeps_writeXsr _ _ hhalted)
  | srr0Lr => cases h

theorem keeps_xirWrite (p : XirPair) (v : Dword) (s : State) : Keeps s (xirWrite p v s) := by
  unfold xirWrite
  split
  next t h => exact (keeps_xirWritePair p v s t h).congr_right rfl
  next => exact keeps_of_guarded rfl

theorem continues_sampleHaltReq (s : State) : Continues s (sampleHaltReq s) := by
  unfold sampleHaltReq
  split
  · exact continues_raiseHalt 6 s
  · exact .refl s

theorem continues_sampleHresetReq (s : State) : Continues s (sampleHresetReq s) := by
  unfold sampleHresetReq
  split
  · exact continues_beginReset .hard true s
  · exact .refl s

theorem keeps_stimulate (e : Stimulus) (s : State) : Keeps s (stimulate e s) := by
  cases e with
  | run => exact (Continues.refl s).keeps
  | cycle timer decTimer => exact keeps_timerCycle timer decTimer s
  | extIntr level =>
    simp only [stimulate]
    split
    · exact (Continues.refl s).keeps
    · exact keeps_of_guarded rfl
  | haltReq level =>
    have hpin : Continues s { s with pins := { s.pins with haltReq := level } } := continues_of_guarded rfl
    exact (hpin.trans (continues_sampleHaltReq _)).keeps
  | hresetReq level =>
    have hpin : Continues s { s with pins := { s.pins with hresetReq := level } } := continues_of_guarded rfl
    simp only [stimulate]
    split
    · exact (hpin.trans (continues_beginReset .hard true _)).keeps
    · exact hpin.keeps
  | xirRead p => exact keeps_of_guarded rfl
  | xirReadGprs p => exact keeps_of_guarded rfl
  | xirWrite p v => exact keeps_xirWrite p v s
  | memSys m => exact keeps_of_guarded rfl
  | busWrite a b => exact (continues_mem s _ (writeByte_wf s.mem a b)).keeps
  | hardwareFailure => exact (continues_raiseHalt 7 s).keeps.congr_right rfl

/-! ### Every step -/

theorem coreStep_keeps (s : State) : ∃ t, coreStep s = .next t ∧ Keeps s t := by
  have hreset := (continues_sampleHresetReq s).keeps
  unfold coreStep
  dsimp only
  split
  next r _ => exact ⟨_, rfl, hreset.trans (keeps_resetStep r _)⟩
  next =>
    have hhalt := hreset.trans (continues_sampleHaltReq _).keeps
    obtain ⟨-, hstep⟩ | ⟨-, t, hstep, ht⟩ := instructionStep_continues (sampleHaltReq (sampleHresetReq s))
    · exact ⟨_, hstep, hhalt⟩
    · exact ⟨_, hstep, hhalt.trans (ht.trans (continues_endInstruction t)).keeps⟩

theorem continues_beginStep (s : State) : Continues s (beginStep s) := ⟨rfl, id, id, fun _ => rfl⟩

/-- Every step answers a next state that keeps the parameters and the invariant. -/
theorem step_keeps (s : State) : ∃ t, step s = .next t ∧ Keeps s t := by
  have hbegin := (continues_beginStep s).keeps
  unfold step nextStep
  dsimp only
  split
  next =>
    obtain ⟨t, hstep, ht⟩ := coreStep_keeps (beginStep s)
    exact ⟨t, hstep, hbegin.trans ht⟩
  next e rest _ =>
    have hqueue := hbegin.congr_right (rfl : State.guarded { beginStep s with stimuli := rest } = _)
    unfold stepWith
    split
    next =>
      obtain ⟨t, hstep, ht⟩ := coreStep_keeps { beginStep s with stimuli := rest }
      exact ⟨t, hstep, hqueue.trans ht⟩
    next => exact ⟨_, rfl, hqueue.trans (keeps_stimulate e _)⟩

/-- Settles O3: every operation of a step keeps the invariant, and so does the step. -/
theorem stepKeepsInvariant : Obligations.StepKeepsInvariant := by
  intro s t hs hstep
  obtain ⟨u, hu, hkeeps⟩ := step_keeps s
  obtain rfl : u = t := Host.Outcome.next.inj (hu.symm.trans hstep)
  exact hkeeps.inv hs

/-- Settles O4, by evaluating the invariant of the one state. -/
theorem resetMeetsInvariant : Obligations.ResetMeetsInvariant := by
  unfold Obligations.ResetMeetsInvariant State.Inv
  decide

/-- Settles O5: no operation of a step ends in a fault or a refusal, or writes the parameters. -/
theorem stepAnswersNextAndKeepsParameters : Obligations.StepAnswersNextAndKeepsParameters := by
  intro s
  obtain ⟨t, hstep, hkeeps⟩ := step_keeps s
  exact ⟨t, hstep, hkeeps.cfg⟩

end Sys2Proof.Machine
end

section
/-! PROOFS. Registers read as written, and the results of the arithmetic, logical and compare instructions (10_state.md R32, R33, R41;
40_arith.md; 41_logical.md; 43_compare.md). -/

namespace Sys2Proof.Machine

/-! ### Registers -/

theorem vdr_high_ne_low (d : Vdr) : d.high ≠ d.low := by cases d <;> decide

theorem dwordLo_eq_setWidth (v : Dword) : dwordLo v = v.setWidth 32 :=
  (BitVec.setWidth_eq_extractLsb' (by decide)).symm

/-- A doubleword is its two words. -/
theorem dwordOf_hi_lo (v : Dword) : dwordOf (dwordHi v) (dwordLo v) = v := by
  rw [dwordOf_eq_append]
  exact extractLsb'_append_swapped 32 32 v

theorem setVdr_gpr_eq_setPair (s : State) (d : Vdr) (v : Dword) : (s.setVdr d v).gpr = s.gpr.setPair d v := by
  rw [setVdr_gpr, dwordLo_eq_setWidth]
  rfl

/-- Settles O8, from what a read gives after a write of the same and of another register. -/
theorem registersReadAsWritten : Obligations.RegistersReadAsWritten := by
  refine ⟨gprs_get_set, fun s d v => ?_, fun s d v q hhigh hlow => ?_⟩
  · simp only [State.vdr, reg_def, setVdr_gpr, gprs_get_set, if_neg (vdr_high_ne_low d), if_true, dwordOf_hi_lo]
  · simp only [reg_def, setVdr_gpr, gprs_get_set, if_neg hhigh, if_neg hlow]

/-! ### The next address and the record of a result -/

theorem advance_eq_nia (s : State) : s.advance = { s with iar := s.nia } := advance_eq s

/-- The sign of a signed number, from its most significant bit and whether it is 0 (10_state.md R41). -/
theorem signOf_toInt {w : Nat} (so : Bool) (r : BitVec w) :
    signOf so r.toInt = ⟨r.getMsbD 0, !r.getMsbD 0 && decide (r ≠ 0), decide (r = 0), so⟩ := by
  have hneg : r.getMsbD 0 = decide (r.toInt < 0) := BitVec.msb_eq_toInt
  have hzero : r = 0 ↔ r.toInt = 0 := by rw [← BitVec.toInt_inj, BitVec.ofNat_eq_ofNat, BitVec.toInt_zero]
  have hpos : (!decide (r.toInt < 0) && decide (r.toInt ≠ 0)) = decide (0 < r.toInt) := by
    rw [← decide_not, ← Bool.decide_and]
    exact decide_eq_decide.2 (by omega)
  simp only [signOf, hneg, hzero, ne_eq, ← hpos]

theorem setCR0_eq (r : Word) (s : State) : setCR0 r s = { s with cr0 := signOf s.xer.so r.toInt } := by
  rw [signOf_toInt]
  rfl

theorem setCR0Dword_eq (r : Dword) (s : State) : setCR0Dword r s = { s with cr0 := signOf s.xer.so r.toInt } := by
  rw [signOf_toInt]
  rfl

theorem record_eq (rc : Bool) (r : Word) (s : State) :
    record rc r s = { s with cr0 := if rc then signOf s.xer.so r.toInt else s.cr0 } := by
  cases rc with
  | false => rfl
  | true => exact setCR0_eq r s

theorem recordDword_eq (rc : Bool) (r : Dword) (s : State) :
    recordDword rc r s = { s with cr0 := if rc then signOf s.xer.so r.toInt else s.cr0 } := by
  cases rc with
  | false => rfl
  | true => exact setCR0Dword_eq r s

/-! ### The common suffixes -/

theorem arithResult_eq (carrying oe rc : Bool) (rt : Gpr) (m : Sum) (s : State) :
    arithResult carrying oe rc rt m s = arithNext s rt carrying oe rc m.result m.ca m.ov := by
  simp only [arithResult, record_eq, advance_eq_nia, arithNext]
  cases carrying <;> cases oe <;> simp [overflow, setOV, setCA, State.setReg, State.nia]

theorem logicalForm_eq (rc : Bool) (ra : Gpr) (r : Word) (s : State) : logicalForm rc ra r s = wordNext s ra rc r := by
  rw [logicalForm, record_eq, advance_eq_nia]
  rfl

theorem rotateForm_eq (rc : Bool) (ra : Gpr) (r : Word) (s : State) : rotateForm rc ra r s = wordNext s ra rc r :=
  logicalForm_eq rc ra r s

theorem rotateDwordForm_eq (rc : Bool) (da : Vdr) (v : Dword) (s : State) : rotateDwordForm rc da v s = dwordNext s da rc v := by
  rw [rotateDwordForm, recordDword_eq, advance_eq_nia, dwordNext, ← setVdr_gpr_eq_setPair]
  rfl

/-! ### The adder -/

theorem add3_result (a b : Word) (c : Bool) : (add3 a b c).result = a + b + BitVec.ofNat 32 c.toNat := by
  simp only [add3, BitVec.ofNat_add, BitVec.ofNat_toNat, BitVec.setWidth_eq]

/-- The carries into and out of bit 0 differ where the exact signed sum does not fit (10_state.md R45). -/
theorem add3_ov (a b : Word) (c : Bool) : (add3 a b c).ov = overflows (a.toInt + b.toInt + c.toNat) := by
  have hc := c.toNat_le
  have ha := a.isLt
  have hb := b.isLt
  rw [Bool.eq_iff_iff]
  simp only [add3, overflows, bne_iff_ne, ne_eq, decide_eq_decide, Bool.or_eq_true, decide_eq_true_eq,
    BitVec.toInt_eq_toNat_cond]
  split <;> split <;> omega

theorem arithResult_add3 (carrying oe rc : Bool) (rt : Gpr) (a b : Word) (c : Bool) (s : State) :
    arithResult carrying oe rc rt (add3 a b c) s = sumNext s rt carrying oe rc a b c.toNat := by
  rw [arithResult_eq, add3_ov]
  rfl

/-- The adder subtracts: the first operand is complemented, and the carry in is 1 where nothing is borrowed (40_arith.md R200). -/
theorem arithResult_subtract (carrying oe rc : Bool) (rt : Gpr) (a b : Word) (c : Bool) (s : State) :
    arithResult carrying oe rc rt (add3 (~~~a) b c) s = differenceNext s rt carrying oe rc b a (1 - c.toNat) := by
  have hc := c.toNat_le
  have hnot : (~~~a).toInt = -a.toInt - 1 := by
    have ha := a.isLt
    simp only [BitVec.toInt_eq_toNat_cond, BitVec.toNat_not]
    split <;> split <;> omega
  have hexact : (~~~a).toInt + b.toInt + c.toNat = b.toInt - a.toInt - (1 - c.toNat : Nat) := by omega
  have hresult : (add3 (~~~a) b c).result = BitVec.ofInt 32 (b.toInt - a.toInt - (1 - c.toNat : Nat)) := by
    rw [← hexact, BitVec.ofInt_add, BitVec.ofInt_add, BitVec.ofInt_toInt, BitVec.ofInt_toInt, add3_result, BitVec.ofInt_natCast]
  have hcarry : (add3 (~~~a) b c).ca = decide (a.toNat + (1 - c.toNat) ≤ b.toNat) := by
    refine decide_eq_decide.2 ?_
    rw [BitVec.toNat_not]
    omega
  rw [arithResult_eq, hresult, hcarry, add3_ov, hexact]
  rfl

/-- A halfword moved to the high half. -/
theorem place_halfword (si : BitVec 16) : place si 0 = si.setWidth 32 * 0x10000 := by
  apply BitVec.eq_of_toNat_eq
  simp [place, Nat.shiftLeft_eq]

/-- Settles O10: each addition is the adder's, or a sum to a base register. -/
theorem additionResults : Obligations.AdditionResults := by
  intro s rt ra rb si oe rc
  refine ⟨?_, ?_, ?_, ?_, ?_, ?_, ?_, ?_, ?_⟩
  · exact congrArg Host.Outcome.next (arithResult_add3 false oe rc rt _ _ false s)
  · exact congrArg Host.Outcome.next (arithResult_add3 true oe rc rt _ _ false s)
  · exact congrArg Host.Outcome.next (arithResult_add3 true oe rc rt _ _ s.xer.ca s)
  · exact congrArg Host.Outcome.next (arithResult_add3 true oe rc rt _ _ s.xer.ca s)
  · exact congrArg Host.Outcome.next (arithResult_add3 true oe rc rt _ _ s.xer.ca s)
  · exact congrArg Host.Outcome.next (arithResult_add3 true false false rt _ _ false s)
  · exact congrArg Host.Outcome.next (arithResult_add3 true false true rt _ _ false s)
  · exact congrArg Host.Outcome.next (advance_eq_nia _)
  · rw [← place_halfword]
    exact congrArg Host.Outcome.next (advance_eq_nia _)

/-- Settles O11: each subtraction is the adder's with its first operand complemented. -/
theorem subtractionResults : Obligations.SubtractionResults := by
  intro s rt ra rb si oe rc
  refine ⟨?_, ?_, ?_, ?_, ?_, ?_, ?_⟩
  · exact congrArg Host.Outcome.next (arithResult_subtract false oe rc rt _ _ true s)
  · exact congrArg Host.Outcome.next (arithResult_subtract true oe rc rt _ _ true s)
  · exact congrArg Host.Outcome.next (arithResult_subtract true oe rc rt _ _ s.xer.ca s)
  · exact congrArg Host.Outcome.next (arithResult_subtract true false false rt _ _ true s)
  · exact congrArg Host.Outcome.next (arithResult_subtract true oe rc rt _ _ s.xer.ca s)
  · exact congrArg Host.Outcome.next (arithResult_subtract true oe rc rt _ _ s.xer.ca s)
  · exact congrArg Host.Outcome.next (arithResult_subtract false oe rc rt _ _ true s)

/-! ### Multiplies -/

theorem isX_iff (s : State) : s.isX = true ↔ s.cfg.variant = .ppe42x := decide_eq_true_iff

/-- The low bits of a word as a field. -/
theorem bits_low (w : Word) (a n : Nat) (h : a + n = 32) : bits w a n = w.setWidth n := by
  rw [bits, show 32 - a - n = 0 by omega, BitVec.setWidth_eq_extractLsb' (by omega)]

/-- Settles O12: `mulli` and `mullw` take the exact product of words, the others of their low halfwords. -/
theorem multiplyResults : Obligations.MultiplyResults := by
  intro s rt ra rb si oe rc
  refine ⟨fun hx => ?_, fun hx => ?_, ?_, ?_⟩
  · refine congrArg Host.Outcome.next ?_
    rw [validForm_valid _ _ _ ((isX_iff s).2 hx), advance_eq_nia, ← sext16_toInt]
    rfl
  · refine congrArg Host.Outcome.next ?_
    rw [validForm_valid _ _ _ ((isX_iff s).2 hx), arithResult_eq]
    rfl
  · rw [← bits_low _ 16 16 rfl, ← bits_low _ 16 16 rfl]
    exact congrArg Host.Outcome.next (logicalForm_eq rc rt _ s)
  · rw [← BitVec.toNat_setWidth, ← BitVec.toNat_setWidth, ← bits_low _ 16 16 rfl, ← bits_low _ 16 16 rfl]
    exact congrArg Host.Outcome.next (logicalForm_eq rc rt _ s)

/-! ### Logical instructions -/

/-- The count stops at the first 1 bit from bit `32 - k` on, or after all of them. -/
theorem leadingZeros_spec (w : Word) (k : Nat) (hk : k ≤ 32) :
    leadingZeros w k ≤ k ∧ (∀ i < leadingZeros w k, bitAt w (32 - k + i) = false) ∧
      (leadingZeros w k < k → bitAt w (32 - k + leadingZeros w k) = true) := by
  induction k with
  | zero => simp [leadingZeros]
  | succ k ih =>
    obtain ⟨hle, hzeros, hone⟩ := ih (by omega)
    have hfirst : 31 - k = 32 - (k + 1) := by omega
    have hnext (i : Nat) : 32 - (k + 1) + (i + 1) = 32 - k + i := by omega
    cases hbit : bitAt w (31 - k) with
    | true => simp [leadingZeros, hbit, ← hfirst]
    | false =>
      simp only [leadingZeros, hbit, Bool.false_eq_true, if_false, hnext]
      refine ⟨by omega, fun i hi => ?_, fun h => hone (by omega)⟩
      cases i with
      | zero => rw [Nat.add_zero, ← hfirst, hbit]
      | succ i => exact hnext i ▸ hzeros i (by omega)

/-- Settles O13: every form writes its result and records it; the results agree bit by bit. -/
theorem logicalResults : Obligations.LogicalResults := by
  intro s ra rs rb ui rc
  have hform (rc : Bool) (r q : Word) (h : r = q) :
      (Host.Outcome.next (logicalForm rc ra r s) : Host.Outcome State Fault Refusal) = .next (wordNext s ra rc q) := by
    rw [logicalForm_eq, h]
  have hhigh : place ui 0 = ui.setWidth 32 <<< 16 := rfl
  refine ⟨hform rc _ _ rfl, hform rc _ _ rfl, hform rc _ _ rfl, hform rc _ _ rfl, hform rc _ _ rfl,
    hform rc _ _ BitVec.not_and, hform rc _ _ BitVec.not_or, hform rc _ _ BitVec.not_xor_left, hform true _ _ rfl,
    hform true _ _ rfl, hform false _ _ rfl, hform false _ _ rfl, hform false _ _ rfl, hform false _ _ rfl,
    hform rc _ _ ?_, hform rc _ _ ?_, leadingZeros (s.reg rs) 32, ?_⟩
  · rw [bits_low _ 24 8 rfl]
    rfl
  · rw [bits_low _ 16 16 rfl]
    rfl
  · obtain ⟨hle, hzeros, hone⟩ := leadingZeros_spec (s.reg rs) 32 (by omega)
    simp only [Nat.sub_self, Nat.zero_add] at hzeros hone
    exact ⟨hle, hzeros, hone, hform rc _ _ rfl⟩

/-! ### Compares -/

theorem cmpCR0_eq (x y : Word) (signed : Bool) (s : State) :
    cmpCR0 x y signed s = { s with cr0 := signOf s.xer.so (compareValue signed x - compareValue signed y) } := by
  rw [← cmpCR0_cr0]
  rfl

/-- Settles O18: each compare records the sign of the exact difference of its operands. -/
theorem compareResults : Obligations.CompareResults := by
  intro s ra rb imm
  have hcompare (x y : Word) (signed : Bool) :
      (Host.Outcome.next (cmpCR0 x y signed s).advance : Host.Outcome State Fault Refusal) =
        .next { s with cr0 := signOf s.xer.so (compareValue signed x - compareValue signed y), iar := s.nia } := by
    rw [advance_eq_nia, cmpCR0_eq]
    rfl
  refine ⟨hcompare _ _ true, hcompare _ _ false, ?_, ?_⟩
  · rw [← sext16_toInt]
    exact hcompare _ _ true
  · rw [← zext16_toNat]
    exact hcompare _ _ false

end Sys2Proof.Machine
end

section
/-! PROOFS. Rotates bit by bit, shifts as products and quotients by a power of two (42_rotate_shift.md). One mask and one rotation of
any width serve the 32-bit and the 64-bit forms. -/

namespace Sys2Proof.Machine

/-! ### Masks and rotations, bit by bit -/

/-- Ones in bits `mb` through `me` of a word of any width, wrapping if `mb > me` (42_rotate_shift.md R270). -/
def maskBits (w mb me : Nat) : BitVec w :=
  if mb ≤ me then BitVec.allOnes w >>> mb &&& BitVec.allOnes w <<< (w - 1 - me)
  else BitVec.allOnes w >>> mb ||| BitVec.allOnes w <<< (w - 1 - me)

theorem mask32_eq_maskBits (mb me : Nat) : mask32 mb me = maskBits 32 mb me := rfl

theorem rotl32_eq_rotateLeft (v : Word) (n : Nat) : rotl32 v n = v.rotateLeft n := rfl

theorem getMsbD_maskBits {w mb me i : Nat} (hme : me < w) (hi : i < w) : (maskBits w mb me).getMsbD i = inMask mb me i := by
  have hleft : (BitVec.allOnes w >>> mb).getMsbD i = decide (mb ≤ i) := by
    rw [BitVec.getMsbD_ushiftRight, BitVec.getMsbD_allOnes]
    have hpast : i - mb < w := by omega
    by_cases hle : mb ≤ i
    · simp [hi, hpast, hle, hle.not_gt]
    · simp [hi, hpast, hle, not_le.1 hle]
  have hright : (BitVec.allOnes w <<< (w - 1 - me)).getMsbD i = decide (i ≤ me) := by
    rw [BitVec.getMsbD_shiftLeft, BitVec.getMsbD_allOnes]
    exact decide_eq_decide.2 (by omega)
  unfold maskBits inMask
  split
  · rw [BitVec.getMsbD_and, hleft, hright, Bool.decide_and]
  · rw [BitVec.getMsbD_or, hleft, hright, Bool.decide_or]

theorem getMsbD_rotateLeft_of_lt {w n i : Nat} (v : BitVec w) (hi : i < w) : (v.rotateLeft n).getMsbD i = v.getMsbD ((i + n) % w) := by
  rw [BitVec.getMsbD_rotateLeft, Nat.add_comm n i]
  simp [hi]

theorem inMask_from (mb me i : Nat) (hmb : mb ≤ me) (hi : i ≤ me) : inMask mb me i = decide (mb ≤ i) := by
  simp [inMask, hmb, hi]

theorem inMask_upTo (me i : Nat) : inMask 0 me i = decide (i ≤ me) := by simp [inMask]

/-! ### Shifts as rotations under a mask -/

/-- A rotation to the left without the bits that came around is a shift. -/
theorem rotateLeft_and_mask {w n : Nat} (v : BitVec w) (hn : n < w) :
    v.rotateLeft n &&& maskBits w 0 (w - 1 - n) = v <<< n := by
  apply BitVec.eq_of_getMsbD_eq
  intro i hi
  rw [BitVec.getMsbD_and, getMsbD_rotateLeft_of_lt v hi, getMsbD_maskBits (by omega) hi, inMask_upTo, BitVec.getMsbD_shiftLeft]
  by_cases hkept : i ≤ w - 1 - n
  · simp [hkept, Nat.mod_eq_of_lt (show i + n < w by omega)]
  · simp [hkept, BitVec.getMsbD_of_ge _ _ (show w ≤ i + n by omega)]

/-- A bit of a rotation by `w - n` is one `n` places up, or one of the `n` low bits, which came around. -/
theorem getMsbD_rotateLeft_sub {w n i : Nat} (v : BitVec w) (hn : n ≤ w) (hi : i < w) :
    (v.rotateLeft (w - n)).getMsbD i = if n ≤ i then v.getMsbD (i - n) else v.getMsbD (i + (w - n)) := by
  rw [getMsbD_rotateLeft_of_lt v hi]
  split
  · rw [show i + (w - n) = (i - n) + w by omega, Nat.add_mod_right, Nat.mod_eq_of_lt (by omega)]
  · rw [Nat.mod_eq_of_lt (by omega)]

theorem rotateLeft_sub_and_mask {w n : Nat} (v : BitVec w) (hn : n < w) :
    v.rotateLeft (w - n) &&& maskBits w n (w - 1) = v >>> n := by
  apply BitVec.eq_of_getMsbD_eq
  intro i hi
  rw [BitVec.getMsbD_and, getMsbD_rotateLeft_sub v hn.le hi, getMsbD_maskBits (by omega) hi, inMask_from _ _ _ (by omega) (by omega),
    BitVec.getMsbD_ushiftRight]
  by_cases hkept : n ≤ i
  · simp [hkept, hi]
  · simp [hkept, show i < n by omega]

/-- Outside the mask of a shift to the right stand the bits that it drops. -/
theorem rotateLeft_sub_and_not_mask {w n : Nat} (v : BitVec w) (hn : n < w) :
    v.rotateLeft (w - n) &&& ~~~maskBits w n (w - 1) = v <<< (w - n) := by
  apply BitVec.eq_of_getMsbD_eq
  intro i hi
  rw [BitVec.getMsbD_and, getMsbD_rotateLeft_sub v hn.le hi, BitVec.getMsbD_not, getMsbD_maskBits (by omega) hi,
    inMask_from _ _ _ (by omega) (by omega), BitVec.getMsbD_shiftLeft]
  by_cases hkept : n ≤ i
  · simp [hkept, BitVec.getMsbD_of_ge _ _ (show w ≤ i + (w - n) by omega)]
  · simp [hkept, hi]

theorem ofNat_mul_two_pow {w : Nat} (v : BitVec w) (n : Nat) : BitVec.ofNat w (v.toNat * 2 ^ n) = v <<< n := by
  apply BitVec.eq_of_toNat_eq
  rw [BitVec.toNat_ofNat, BitVec.toNat_shiftLeft, Nat.shiftLeft_eq]

theorem ofNat_div_two_pow {w : Nat} (v : BitVec w) (n : Nat) : BitVec.ofNat w (v.toNat / 2 ^ n) = v >>> n := by
  apply BitVec.eq_of_toNat_eq
  rw [BitVec.toNat_ofNat, BitVec.toNat_ushiftRight, Nat.shiftRight_eq_div_pow,
    Nat.mod_eq_of_lt ((Nat.div_le_self _ _).trans_lt v.isLt)]

theorem shiftRight_eq_zero_of_ge {w n : Nat} (v : BitVec w) (hn : w ≤ n) : v >>> n = 0 := by
  apply BitVec.eq_of_toNat_eq
  rw [BitVec.toNat_ushiftRight, Nat.shiftRight_eq_div_pow]
  exact Nat.div_eq_of_lt (v.isLt.trans_le (Nat.pow_le_pow_right (by omega) hn))

/-! ### Shift amounts -/

/-- A shift amount is a low field of RB; the bit above it says whether it is past the width (42_rotate_shift.md R275, R284). -/
theorem bitAt_eq_testBit (r : Word) (k : Nat) (hk : k < 32) : bitAt r (31 - k) = r.toNat.testBit k := by
  rw [bitAt, BitVec.getMsbD_eq_getLsbD, BitVec.testBit_toNat]
  simp [show 31 - k < 32 by omega, show 31 - (31 - k) = k by omega]

theorem mod_two_pow_succ_of_testBit (n k : Nat) : n % 2 ^ (k + 1) = n % 2 ^ k + if n.testBit k then 2 ^ k else 0 := by
  rw [Nat.testBit_eq_decide_div_mod_eq, Nat.pow_succ, Nat.mod_mul]
  rcases Nat.mod_two_eq_zero_or_one (n / 2 ^ k) with h | h <;> simp [h]

theorem shiftAmount_eq (r : Word) : shiftAmount r = r.toNat % 32 := by
  rw [shiftAmount, bits_low _ 27 5 rfl, BitVec.toNat_setWidth]

theorem shiftAmountDword_eq (r : Word) : shiftAmountDword r = r.toNat % 64 := by
  rw [shiftAmountDword, bits_low _ 26 6 rfl, BitVec.toNat_setWidth]

theorem mod64_eq (r : Word) : r.toNat % 64 = shiftAmount r + if bitAt r 26 then 32 else 0 := by
  rw [shiftAmount_eq, bitAt_eq_testBit r 5 (by omega)]
  exact mod_two_pow_succ_of_testBit r.toNat 5

theorem mod128_eq (r : Word) : r.toNat % 128 = shiftAmountDword r + if bitAt r 25 then 64 else 0 := by
  rw [shiftAmountDword_eq, bitAt_eq_testBit r 6 (by omega)]
  exact mod_two_pow_succ_of_testBit r.toNat 6

theorem shiftAmount_lt (r : Word) : shiftAmount r < 32 := (bits r 27 5).isLt

theorem shiftAmountDword_lt (r : Word) : shiftAmountDword r < 64 := (bits r 26 6).isLt

/-! ### Rotates -/

/-- Settles O14: each rotate is a rotation of its source under its mask. -/
theorem rotateResults : Obligations.RotateResults := by
  intro s ra rs rb sh mb me rc
  have hmask (i : Nat) (hi : i < 32) : bitAt (mask32 mb.toNat me.toNat) i = inMask mb.toNat me.toNat i :=
    getMsbD_maskBits me.isLt hi
  have hrotate (n i : Nat) (hi : i < 32) : bitAt (rotl32 (s.reg rs) n) i = bitAt (s.reg rs) ((i + n) % 32) :=
    getMsbD_rotateLeft_of_lt _ hi
  have hand (x y : Word) (i : Nat) : bitAt (x &&& y) i = (bitAt x i && bitAt y i) := BitVec.getMsbD_and
  refine ⟨⟨_, congrArg _ (rotateForm_eq rc ra _ s), fun i hi => ?_⟩, ⟨_, congrArg _ (rotateForm_eq rc ra _ s), fun i hi => ?_⟩,
    ⟨_, congrArg _ (rotateForm_eq rc ra _ s), fun i hi => ?_⟩⟩
  · have hnot : bitAt (~~~mask32 mb.toNat me.toNat) i = !inMask mb.toNat me.toNat i := by
      rw [← hmask i hi]
      simp [bitAt, hi]
    rw [bitAt_or, hand, hand, hrotate _ i hi, hmask i hi, hnot]
    cases inMask mb.toNat me.toNat i <;> simp
  · rw [hand, hrotate _ i hi, hmask i hi, Bool.and_comm]
  · rw [hand, hrotate _ i hi, hmask i hi, Bool.and_comm, shiftAmount_eq, Nat.add_mod_mod]

/-- Settles O16: each 64-bit rotate is a rotation of its source under its mask. -/
theorem doublewordRotateResults : Obligations.DoublewordRotateResults := by
  intro s da ds sh m rc hx rotated
  have hform (v : Dword) :
      (Host.Outcome.next (validForm s.isX s (rotateDwordForm rc da v s)) : Host.Outcome State Fault Refusal) =
        .next (dwordNext s da rc v) := by
    rw [validForm_valid _ _ _ ((isX_iff s).2 hx), rotateDwordForm_eq]
  have hmask (mb me i : Nat) (hme : me < 64) (hi : i < 64) : (mask64 mb me).getMsbD i = inMask mb me i := getMsbD_maskBits hme hi
  have hrotate (i : Nat) (hi : i < 64) : (rotl64 (s.vdr ds) sh.toNat).getMsbD i = rotated i := getMsbD_rotateLeft_of_lt _ hi
  refine ⟨⟨_, hform _, fun i hi => ?_⟩, ⟨_, hform _, fun i hi => ?_⟩, ⟨_, hform _, fun i hi => ?_⟩⟩
  · rw [BitVec.getMsbD_and, hrotate i hi, hmask _ _ i (by omega) hi, inMask_from _ _ _ (by omega) (by omega), Bool.and_comm]
  · rw [BitVec.getMsbD_and, hrotate i hi, hmask _ _ i m.isLt hi, inMask_upTo, Bool.and_comm]
  · have hnot : (~~~mask64 m.toNat (63 - sh.toNat)).getMsbD i = !inMask m.toNat (63 - sh.toNat) i := by
      rw [BitVec.getMsbD_not, hmask _ _ i (by omega) hi]
      simp [hi]
    rw [BitVec.getMsbD_or, BitVec.getMsbD_and, BitVec.getMsbD_and, hrotate i hi, hmask _ _ i (by omega) hi, hnot]
    cases inMask m.toNat (63 - sh.toNat) i <;> simp

/-! ### Shifts -/

theorem slw_result (v r : Word) :
    rotl32 v (shiftAmount r) &&& (if bitAt r 26 then 0 else mask32 0 (31 - shiftAmount r)) =
      BitVec.ofNat 32 (v.toNat * 2 ^ (r.toNat % 64)) := by
  rw [ofNat_mul_two_pow, mod64_eq]
  split
  · rw [BitVec.shiftLeft_eq_zero (by omega)]
    exact BitVec.and_zero
  · exact rotateLeft_and_mask v (shiftAmount_lt r)

theorem srw_result (v r : Word) :
    rotl32 v (32 - shiftAmount r) &&& (if bitAt r 26 then 0 else mask32 (shiftAmount r) 31) =
      BitVec.ofNat 32 (v.toNat / 2 ^ (r.toNat % 64)) := by
  rw [ofNat_div_two_pow, mod64_eq]
  split
  · rw [shiftRight_eq_zero_of_ge v (by omega)]
    exact BitVec.and_zero
  · exact rotateLeft_sub_and_mask v (shiftAmount_lt r)

theorem slvd_result (v : Dword) (r : Word) :
    rotl64 v (shiftAmountDword r) &&& (if bitAt r 25 then 0 else mask64 0 (63 - shiftAmountDword r)) =
      BitVec.ofNat 64 (v.toNat * 2 ^ (r.toNat % 128)) := by
  rw [ofNat_mul_two_pow, mod128_eq]
  split
  · rw [BitVec.shiftLeft_eq_zero (by omega)]
    exact BitVec.and_zero
  · exact rotateLeft_and_mask v (shiftAmountDword_lt r)

theorem srvd_result (v : Dword) (r : Word) :
    rotl64 v (64 - shiftAmountDword r) &&& (if bitAt r 25 then 0 else mask64 (shiftAmountDword r) 63) =
      BitVec.ofNat 64 (v.toNat / 2 ^ (r.toNat % 128)) := by
  rw [ofNat_div_two_pow, mod128_eq]
  split
  · rw [shiftRight_eq_zero_of_ge v (by omega)]
    exact BitVec.and_zero
  · exact rotateLeft_sub_and_mask v (shiftAmountDword_lt r)

theorem ofInt_div_two_pow {w : Nat} (v : BitVec w) (n : Nat) : BitVec.ofInt w (v.toInt / 2 ^ n) = v.sshiftRight n := by
  have hdiv : v.toInt / 2 ^ n = (v.sshiftRight n).toInt := by
    rw [BitVec.toInt_sshiftRight, Int.shiftRight_eq_div_pow, Nat.cast_pow, Nat.cast_ofNat]
  rw [hdiv, BitVec.ofInt_toInt]

/-- A signed number is divisible by a power of two up to 2^32 where the low bits of its word are 0. -/
theorem toInt_emod_two_pow_eq_zero (v : Word) (n : Nat) (hn : n ≤ 32) : v.toInt % 2 ^ n = 0 ↔ v <<< (32 - n) = 0 := by
  have hpow : 2 ^ 32 = 2 ^ n * 2 ^ (32 - n) := by rw [← Nat.pow_add, Nat.add_sub_cancel' hn]
  have hdvd : (2 ^ n : Int) ∣ 2 ^ 32 := pow_dvd_pow 2 hn
  have hunsigned : (2 ^ n : Int) ∣ v.toInt ↔ (2 ^ n : Int) ∣ v.toNat := by
    rw [BitVec.toInt_eq_toNat_cond]
    split
    · rfl
    · exact (Int.dvd_iff_dvd_of_dvd_sub (by simpa using hdvd))
  have hnat : (2 ^ n : Int) ∣ v.toNat ↔ v.toNat % 2 ^ n = 0 := by
    rw [← Nat.dvd_iff_mod_eq_zero, ← Int.natCast_dvd_natCast, Nat.cast_pow, Nat.cast_ofNat]
  rw [← Int.dvd_iff_emod_eq_zero, hunsigned, hnat, ← BitVec.toNat_inj, BitVec.toNat_shiftLeft, Nat.shiftLeft_eq, hpow,
    Nat.mul_mod_mul_right]
  simp

/-- The word of copies of a bit (42_rotate_shift.md R277). -/
theorem getMsbD_sign (b : Bool) (i : Nat) (hi : i < 32) : (if b then BitVec.allOnes 32 else 0 : Word).getMsbD i = b := by
  cases b
  · exact BitVec.getMsbD_zero
  · exact BitVec.getMsbD_allOnes.trans (decide_eq_true hi)

theorem bitAt_zero_eq_msb (v : Word) : bitAt v 0 = v.msb := rfl

theorem bitAt_zero_eq_neg (v : Word) : bitAt v 0 = decide (v.toInt < 0) := BitVec.msb_eq_toInt

/-- The algebraic shift by less than 32 places divides, rounding down (42_rotate_shift.md R277). -/
theorem shiftAlgebraic_of_lt (v : Word) (n : Nat) (hn : n < 32) :
    shiftAlgebraic v (rotl32 v (32 - n)) (mask32 n 31) =
      (BitVec.ofInt 32 (v.toInt / 2 ^ n), decide (v.toInt < 0) && decide (v.toInt % 2 ^ n ≠ 0)) := by
  have hkept : rotl32 v (32 - n) &&& mask32 n 31 = v >>> n := rotateLeft_sub_and_mask v hn
  have hdropped : rotl32 v (32 - n) &&& ~~~mask32 n 31 = v <<< (32 - n) := rotateLeft_sub_and_not_mask v hn
  have hexact : decide (v.toInt % 2 ^ n ≠ 0) = decide (v <<< (32 - n) ≠ 0) :=
    decide_eq_decide.2 (not_congr (toInt_emod_two_pow_eq_zero v n hn.le))
  rw [shiftAlgebraic, hkept, hdropped, ofInt_div_two_pow, hexact, bitAt_zero_eq_neg]
  refine Prod.ext (BitVec.eq_of_getMsbD_eq fun i hi => ?_) rfl
  have hmask : (mask32 n 31).getMsbD i = decide (n ≤ i) :=
    (getMsbD_maskBits (by omega) hi).trans (inMask_from _ _ _ (by omega) (by omega))
  rw [BitVec.getMsbD_or, BitVec.getMsbD_and, getMsbD_sign _ i hi, BitVec.getMsbD_not, hmask, BitVec.getMsbD_ushiftRight,
    BitVec.getMsbD_sshiftRight, ← bitAt_zero_eq_neg, bitAt_zero_eq_msb]
  by_cases hle : n ≤ i
  · simp [hle, hi, hle.not_gt]
  · simp [hle, hi, not_le.1 hle]

theorem rotateLeft_eq_zero {w : Nat} (v : BitVec w) (k : Nat) (hw : 0 < w) : v.rotateLeft k = 0 ↔ v = 0 := by
  refine ⟨fun h => BitVec.eq_of_getMsbD_eq fun i hi => ?_, fun h => ?_⟩
  · have hcame : v.getMsbD i = (v.rotateLeft k).getMsbD ((i + (w - k % w)) % w) := by
      have hk := Nat.mod_lt k hw
      rw [getMsbD_rotateLeft_of_lt v (Nat.mod_lt _ hw), ← Nat.add_mod_mod, Nat.mod_add_mod,
        show i + (w - k % w) + k % w = i + w by omega, Nat.add_mod_right, Nat.mod_eq_of_lt hi]
    rw [hcame, h]
    simp
  · subst h
    apply BitVec.eq_of_getMsbD_eq
    intro i hi
    rw [getMsbD_rotateLeft_of_lt _ hi]
    simp

theorem shiftAlgebraic_zero (v r : Word) :
    shiftAlgebraic v r 0 = (if bitAt v 0 then BitVec.allOnes 32 else 0, bitAt v 0 && decide (r ≠ 0)) := by
  have hmask : ~~~(0 : Word) = BitVec.allOnes 32 := BitVec.not_zero
  have hleft : r &&& (0 : Word) = 0#32 := BitVec.and_zero
  rw [shiftAlgebraic, hmask, BitVec.and_allOnes, BitVec.and_allOnes, hleft, BitVec.zero_or]

/-- By 32 places or more it gives copies of the sign, and no negative number is divided exactly. -/
theorem shiftAlgebraic_of_ge (v : Word) (n k : Nat) (hn : 32 ≤ n) :
    shiftAlgebraic v (rotl32 v k) 0 =
      (BitVec.ofInt 32 (v.toInt / 2 ^ n), decide (v.toInt < 0) && decide (v.toInt % 2 ^ n ≠ 0)) := by
  have hinexact : v.toInt < 0 → v.toInt % 2 ^ n ≠ 0 := by
    intro hneg hzero
    have hdvd : (2 ^ 32 : Int) ∣ v.toInt := (pow_dvd_pow 2 hn).trans (Int.dvd_of_emod_eq_zero hzero)
    have hlow := BitVec.le_toInt v
    omega
  have hnonzero : v.toInt < 0 → rotl32 v k ≠ 0 := by
    intro hneg hzero
    rw [rotl32_eq_rotateLeft, rotateLeft_eq_zero v k (by omega)] at hzero
    simp [hzero] at hneg
  rw [shiftAlgebraic_zero, ofInt_div_two_pow]
  refine Prod.ext (BitVec.eq_of_getMsbD_eq fun i hi => ?_) ?_
  · rw [getMsbD_sign _ i hi, BitVec.getMsbD_sshiftRight, bitAt_zero_eq_msb]
    simp [hi, show i < n by omega]
  · rw [bitAt_zero_eq_neg]
    by_cases hneg : v.toInt < 0
    · rw [decide_eq_true (hnonzero hneg), decide_eq_true (hinexact hneg)]
    · rw [decide_eq_false hneg, Bool.false_and, Bool.false_and]

theorem sraw_result (v r : Word) :
    shiftAlgebraic v (rotl32 v (32 - shiftAmount r)) (if bitAt r 26 then 0 else mask32 (shiftAmount r) 31) =
      (BitVec.ofInt 32 (v.toInt / 2 ^ (r.toNat % 64)), decide (v.toInt < 0) && decide (v.toInt % 2 ^ (r.toNat % 64) ≠ 0)) := by
  rw [mod64_eq]
  split
  · exact shiftAlgebraic_of_ge v _ _ (by omega)
  · exact shiftAlgebraic_of_lt v _ (shiftAmount_lt r)

/-- The shift of RS as the model does it, with its CA. -/
theorem rotateForm_setCA (rc : Bool) (ra : Gpr) (r : Word) (c : Bool) (s : State) :
    rotateForm rc ra r (setCA c s) = { wordNext s ra rc r with xer := { s.xer with ca := c } } := rotateForm_eq rc ra r _

/-- Settles O15: each shift is a rotation under a mask, and so a product or a quotient by a power of two. -/
theorem shiftResults : Obligations.ShiftResults := by
  intro s ra rs rb sh rc n v algebraic
  have halgebraic (r : Word × Bool) (n : Nat)
      (hr : r = (BitVec.ofInt 32 (v / 2 ^ n), decide (v < 0) && decide (v % 2 ^ n ≠ 0))) :
      rotateForm rc ra r.1 (setCA r.2 s) = algebraic n := by
    subst hr
    exact rotateForm_setCA rc ra _ _ s
  have hlogical (r q : Word) (hr : r = q) : rotateForm rc ra r s = wordNext s ra rc q := by rw [hr, rotateForm_eq]
  exact ⟨congrArg Host.Outcome.next (hlogical _ _ (slw_result _ _)), congrArg Host.Outcome.next (hlogical _ _ (srw_result _ _)),
    congrArg Host.Outcome.next (halgebraic _ n (sraw_result _ _)),
    congrArg Host.Outcome.next (halgebraic _ sh.toNat (shiftAlgebraic_of_lt _ _ sh.isLt))⟩

/-- Settles O17: the 64-bit shifts likewise. -/
theorem doublewordShiftResults : Obligations.DoublewordShiftResults := by
  intro s da ds rb rc hx n
  have hshift (v q : Dword) (hv : v = q) : validForm s.isX s (rotateDwordForm rc da v s) = dwordNext s da rc q := by
    rw [hv, validForm_valid _ _ _ ((isX_iff s).2 hx), rotateDwordForm_eq]
  exact ⟨congrArg Host.Outcome.next (hshift _ _ (slvd_result _ _)), congrArg Host.Outcome.next (hshift _ _ (srvd_result _ _))⟩

end Sys2Proof.Machine
end

section
/-! PROOFS. Branches and the fused compare-branches (44_branch.md, 45_fused_compare_branch.md): the CTR, the condition, the target and the
link, of one `branch`. -/

namespace Sys2Proof.Machine

/-! ### Targets -/

theorem wordAlign_eq_and_not (a : Word) : wordAlign a = a &&& ~~~3 := rfl

/-- An aligned address loses nothing. -/
theorem wordAlign_of_aligned (a : Word) (h : aligned a = true) : wordAlign a = a := by
  rw [aligned_iff_and] at h
  calc wordAlign a = a &&& ~~~3 ||| a &&& 3 := by rw [h, wordAlign_eq_and_not]; exact BitVec.or_zero.symm
    _ = a := by rw [← BitVec.and_or_distrib_left, BitVec.or_comm, BitVec.or_not_self]; exact BitVec.and_allOnes

theorem wordAlign_wordAlign (a : Word) : wordAlign (wordAlign a) = wordAlign a :=
  wordAlign_of_aligned _ (aligned_wordAlign a)

/-- A displacement of `n` bits with 00 appended, sign-extended, is four times its signed value (44_branch.md R310). -/
theorem signExtend_shiftLeft_two {n : Nat} (d : BitVec n) : d.signExtend 32 <<< 2 = BitVec.ofInt 32 (d.toInt * 4) := by
  rw [BitVec.shiftLeft_eq_mul_twoPow, BitVec.ofInt_mul]
  rfl

theorem aligned_add_shiftLeft_two (a v : Word) (h : aligned a = true) : aligned (a + v <<< 2) = true := by
  rw [aligned_iff] at *
  rw [BitVec.toNat_add, BitVec.toNat_shiftLeft, Nat.shiftLeft_eq]
  omega

/-- The target of a relative branch from an aligned address is aligned. -/
theorem wordAlign_branchTarget {n : Nat} (a : Word) (d : BitVec n) (h : aligned a = true) :
    wordAlign (a + d.signExtend 32 <<< 2) = a + BitVec.ofInt 32 (d.toInt * 4) := by
  rw [wordAlign_of_aligned _ (aligned_add_shiftLeft_two a _ h), signExtend_shiftLeft_two]

/-- The same of the target of `b` and `bc`, absolute or relative. -/
theorem wordAlign_target {n : Nat} (aa : Bool) (a : Word) (d : BitVec n) (h : aligned a = true) :
    wordAlign (if aa then d.signExtend 32 <<< 2 else a + d.signExtend 32 <<< 2) =
      (if aa then 0 else a) + BitVec.ofInt 32 (d.toInt * 4) := by
  cases aa with
  | false => exact wordAlign_branchTarget a d h
  | true =>
    have hzero := wordAlign_branchTarget 0 d rfl
    rwa [BitVec.ofNat_eq_ofNat, BitVec.zero_add] at hzero

/-- A branch writes the LR where it links, and the IAR. -/
theorem branch_eq_nia (taken lk : Bool) (target : Word) (s : State) :
    branch taken lk target s =
      { s with lr := if lk then s.iar + 4 else s.lr, iar := if taken then wordAlign target else s.nia } :=
  branch_eq taken lk target s

/-! ### Branches -/

theorem decrementCtr_eq (bo : BitVec 5) (s : State) :
    decrementCtr bo s = { s with ctr := if bo.getMsbD 2 then s.ctr else s.ctr - 1 } := by
  unfold decrementCtr
  split <;> rfl

/-- The image of CR0 has its bit `n` at bit `n` of the CR (10_state.md R40). -/
theorem bitAt_cr0_value (c : Cr0) (n : Nat) (hn : n < 4) : bitAt c.value n = c.bit n := by
  interval_cases n <;>
    simp (disch := omega) [Cr0.value, Cr0.bit, bitAt_or, bitAt_place_disjoint, bitAt_place_ofBool]

theorem condOk_eq (bo bi : BitVec 5) (s : State) (hbi : bi.toNat < 4) :
    condOk bo bi s = (bo.getMsbD 0 || (bitAt s.cr0.value bi.toNat == bo.getMsbD 1)) := by
  rw [condOk, bitAt_cr0_value _ _ hbi]

/-- Settles O20. -/
theorem branchResults : Obligations.BranchResults := by
  intro s li bo bi bd aa lk hiar link ctr ctrOk' condOk' base
  have hform (hbi : bi.toNat < 4) : crBitForm bi = true := decide_eq_true hbi
  have hcounted (hbi : bi.toNat < 4) : (ctrOk bo (decrementCtr bo s) && condOk bo bi (decrementCtr bo s)) = (ctrOk' && condOk') := by
    rw [condOk_eq bo bi _ hbi, decrementCtr_eq]
    rfl
  refine ⟨congrArg Host.Outcome.next ?_, fun hbi => congrArg Host.Outcome.next ?_, fun hbi => congrArg Host.Outcome.next ?_,
    fun hbi hbo => congrArg Host.Outcome.next ?_⟩
  · rw [branch_eq_nia]
    unfold branchDispI
    rw [wordAlign_target aa _ li hiar]
    rfl
  · rw [validForm_valid _ _ _ (hform hbi), branch_eq_nia, hcounted hbi]
    unfold branchDispB
    rw [wordAlign_target aa _ bd hiar, decrementCtr_eq]
    rfl
  · rw [validForm_valid _ _ _ (hform hbi), branch_eq_nia, hcounted hbi, wordAlign_wordAlign, decrementCtr_eq]
    rfl
  · have hvalid : (crBitForm bi && bo.getMsbD 2) = true := by rw [hform hbi, hbo]; rfl
    rw [validForm_valid _ _ _ hvalid, branch_eq_nia, condOk_eq bo bi s hbi, wordAlign_wordAlign]
    rfl

/-! ### Fused comparisons -/

/-- The state after a fused compare-branch: CR0, the GPRs, the link, and the branch where the test has the sense PX
(45_fused_compare_branch.md R331, R332). -/
theorem branch_fused (px tested lk : Bool) (bdx : BitVec 10) (s t : State) (hiar : aligned s.iar = true) (ht : t.iar = s.iar)
    (hrip : t.xsr = s.xsr) (hlr : t.lr = s.lr) :
    branch (px == tested) lk (s.iar + branchDispF bdx) t =
      { t with
        lr := if lk then s.iar + 4 else s.lr
        iar := if px = tested then s.iar + BitVec.ofInt 32 (bdx.toInt * 4) else s.nia } := by
  rw [branch_eq_nia, branchDispF, wordAlign_branchTarget _ _ hiar, ht, hlr, State.nia, State.nia, hrip, ht]
  simp only [beq_iff_eq]

/-- The tested bit of CR0: LT, GT, and EQ both for BIX = 2 and for BIX = 3 (45_fused_compare_branch.md R338). -/
theorem tested_eq (c : Cr0) (bix : BitVec 2) :
    (if bix = 3 then c.eq else c.bit bix.toNat) = (if bix = 0 then c.lt else if bix = 1 then c.gt else c.eq) := by
  have hcases : bix = 0 ∨ bix = 1 ∨ bix = 2 ∨ bix = 3 := by revert bix; decide
  rcases hcases with rfl | rfl | rfl | rfl <;> rfl

theorem difference_eq (a b : Word) : ~~~b + a + 1 = a - b := by
  rw [BitVec.sub_eq_add_neg, BitVec.neg_eq_not_add, BitVec.add_comm (~~~b), BitVec.add_assoc]
  rfl

theorem ite_setReg (p : Prop) [Decidable p] (t : State) (r : Gpr) (v : Word) :
    (if p then t.setReg r v else t) = { t with gpr := if p then t.gpr.set r v else t.gpr } := by
  split <;> rfl

/-- A fused comparison of exact numbers, their values as the comparison reads them. -/
theorem compareBranch_eq (signed px : Bool) (bix : BitVec 2) (ra : Gpr) (b : Word) (bdx : BitVec 10) (lk : Bool) (s : State)
    (hiar : aligned s.iar = true) :
    compareBranch signed px bix ra b bdx lk s =
      let cr0 := signOf s.xer.so (compareValue signed (s.reg ra) - compareValue signed b)
      let tested := if bix = 0 then cr0.lt else if bix = 1 then cr0.gt else cr0.eq
      { s with
        cr0 := cr0
        gpr := if bix = 3 then s.gpr.set ra (s.reg ra - b) else s.gpr
        lr := if lk then s.iar + 4 else s.lr
        iar := if px = tested then s.iar + BitVec.ofInt 32 (bdx.toInt * 4) else s.nia } := by
  simp only [compareBranch, cmpCR0_eq, tested_eq, difference_eq, ite_setReg]
  exact branch_fused px _ lk bdx s _ hiar rfl rfl rfl

/-- Settles O21. -/
theorem fusedCompareResults : Obligations.FusedCompareResults := by
  intro s px bix ra rb uix bdx lk hiar next
  have hcompare (signed : Bool) (b : Word) := compareBranch_eq signed px bix ra b bdx lk s hiar
  have huix : (uix.setWidth 32).toInt = uix.toNat := by
    have hlt := uix.isLt
    rw [BitVec.toInt_setWidth]
    simp only [Int.bmod_def]
    omega
  refine ⟨congrArg Host.Outcome.next (hcompare true _), congrArg Host.Outcome.next (hcompare false _), ?_⟩
  rw [← huix]
  exact congrArg Host.Outcome.next (hcompare true _)

/-! ### Fused bit forms -/

/-- The mask of one bit. -/
theorem mask32_single (n : Nat) (hn : n < 32) : mask32 n n = BitVec.ofNat 32 (2 ^ (31 - n)) := by
  have htwo : BitVec.ofNat 32 (2 ^ (31 - n)) = BitVec.twoPow 32 (31 - n) := by
    rw [BitVec.twoPow_eq, ← ofNat_mul_two_pow]
    simp
  rw [htwo]
  apply BitVec.eq_of_getMsbD_eq
  intro i hi
  rw [mask32_eq_maskBits, getMsbD_maskBits hn hi, BitVec.getMsbD_twoPow, inMask, if_pos le_rfl, ← Bool.decide_and]
  exact decide_eq_decide.2 (by omega)

theorem cr0_eq_signOf (so : Bool) (r : Word) : (signOf so r.toInt).eq = decide (r = 0) := by rw [signOf_toInt]

/-- A result that sets CR0, and the branch on whether it is 0 (45_fused_compare_branch.md R334, R336). -/
theorem branch_bitForm (px lk : Bool) (r : Word) (g : Gprs) (bdx : BitVec 10) (s : State) (hiar : aligned s.iar = true) :
    branch (px == (setCR0 r { s with gpr := g }).cr0.eq) lk (s.iar + branchDispF bdx) (setCR0 r { s with gpr := g }) =
      { s with
        cr0 := signOf s.xer.so r.toInt
        gpr := g
        lr := if lk then s.iar + 4 else s.lr
        iar := if px = decide (r = 0) then s.iar + BitVec.ofInt 32 (bdx.toInt * 4) else s.nia } := by
  rw [setCR0_eq, cr0_eq_signOf]
  exact branch_fused px _ lk bdx s _ hiar rfl rfl rfl

/-- Settles O22. -/
theorem fusedBitResults : Obligations.FusedBitResults := by
  intro s px ra rb bnx bdx lk hiar bit next tested cleared
  have htested (n : Nat) (hn : n < 32) : testBitBranch px ra n bdx lk s = tested n := by
    simp only [testBitBranch, mask32_single n hn]
    exact branch_bitForm px lk _ s.gpr bdx s hiar
  have hcleared (n : Nat) (hn : n < 32) : clearBitBranch px ra n bdx lk s = cleared n := by
    simp only [clearBitBranch, mask32_single n hn]
    exact branch_bitForm px lk _ _ bdx s hiar
  have hamount : (bits (s.reg rb) 27 5).toNat = (s.reg rb).toNat % 32 := shiftAmount_eq (s.reg rb)
  have hlt : (s.reg rb).toNat % 32 < 32 := Nat.mod_lt _ (by omega)
  refine ⟨?_, congrArg Host.Outcome.next (htested _ bnx.isLt), ?_, congrArg Host.Outcome.next (hcleared _ bnx.isLt)⟩
  · exact congrArg Host.Outcome.next (hamount ▸ htested _ hlt)
  · exact congrArg Host.Outcome.next (hamount ▸ hcleared _ hlt)

end Sys2Proof.Machine
end

section
/-! PROOFS. Bits of fields, and the interrupts in the terms of the statements (60_exceptions.md): interrupt entry, machine checks, dispatch, the
report of imprecise errors. -/

namespace Sys2Proof.Machine

/-! ### Bits of fields -/

theorem bitAt_place {n : Nat} (v : BitVec n) (a i : Nat) (ha : a + n ≤ 32) :
    bitAt (place v a) i = (decide (a ≤ i ∧ i < a + n) && v.getMsbD (i - a)) := by
  rw [bitAt, place, BitVec.getMsbD_shiftLeft, BitVec.getMsbD_setWidth]
  by_cases hin : a ≤ i ∧ i < a + n
  · rw [decide_eq_true hin, decide_eq_true (show 32 - n ≤ i + (32 - a - n) by omega)]
    congr 2
    omega
  · rw [decide_eq_false hin, Bool.false_and]
    by_cases hlow : i < a
    · rw [decide_eq_false (by omega), Bool.false_and]
    · rw [BitVec.getMsbD_of_ge _ _ (by omega), Bool.and_false]

theorem getMsbD_bits (w : Word) (a n j : Nat) (ha : a + n ≤ 32) (hj : j < n) : (bits w a n).getMsbD j = bitAt w (a + j) := by
  rw [bits, bitAt, BitVec.getMsbD_eq_getLsbD, BitVec.getLsbD_extractLsb', BitVec.getMsbD_eq_getLsbD]
  simp only [hj, show n - 1 - j < n by omega, show a + j < 32 by omega, decide_true, Bool.true_and]
  congr 1
  omega

theorem bitAt_setField {n : Nat} (w : Word) (v : BitVec n) (a i : Nat) (ha : a + n ≤ 32) (hi : i < 32) :
    bitAt (setField w a v) i = if a ≤ i ∧ i < a + n then v.getMsbD (i - a) else bitAt w i := by
  have hnot : bitAt (~~~place (BitVec.allOnes n) a) i = !decide (a ≤ i ∧ i < a + n) := by
    rw [bitAt, BitVec.getMsbD_not, decide_eq_true hi, Bool.true_and]
    change (!bitAt (place _ a) i) = _
    rw [bitAt_place _ _ _ ha, BitVec.getMsbD_allOnes]
    by_cases hin : a ≤ i ∧ i < a + n
    · rw [decide_eq_true hin, decide_eq_true (by omega), Bool.true_and]
    · rw [decide_eq_false hin, Bool.false_and]
  rw [setField, bitAt_or, bitAt_place _ _ _ ha, bitAt, BitVec.getMsbD_and]
  change (bitAt w i && bitAt (~~~_) i || _) = _
  rw [hnot]
  by_cases hin : a ≤ i ∧ i < a + n
  · simp [hin]
  · simp [hin]

theorem bitAt_setBit (w : Word) (k i : Nat) (b : Bool) (hk : k < 32) (hi : i < 32) :
    bitAt (setBit w k b) i = if i = k then b else bitAt w i := by
  rw [setBit, bitAt_setField _ _ _ _ (by omega) hi]
  by_cases h : i = k
  · subst h
    cases b <;> simp [ofBool]
  · rw [if_neg (by omega), if_neg h]

theorem word_ext {v w : Word} (h : ∀ i < 32, bitAt v i = bitAt w i) : v = w := BitVec.eq_of_getMsbD_eq h

/-- What a mask of ones keeps of a word is its field there. -/
theorem and_place_ones (w : Word) (a n : Nat) (h : a + n ≤ 32) : w &&& place (BitVec.allOnes n) a = place (bits w a n) a := by
  refine word_ext fun i hi => ?_
  rw [bitAt_place _ _ _ h, bitAt, BitVec.getMsbD_and]
  change (bitAt w i && bitAt (place _ a) i) = _
  rw [bitAt_place _ _ _ h, BitVec.getMsbD_allOnes]
  by_cases hin : a ≤ i ∧ i < a + n
  · rw [getMsbD_bits _ _ _ _ h (by omega), decide_eq_true hin, decide_eq_true (by omega), show a + (i - a) = i by omega]
    simp
  · simp [hin]

theorem bits_one (w : Word) (a : Nat) (h : a < 32) : bits w a 1 = ofBool (bitAt w a) := by
  rw [bitAt_eq_bits w a h]
  have hbit (x : BitVec 1) : x = ofBool (x == 1) := by revert x; decide
  exact hbit _

/-- Two adjoining fields written are one. -/
theorem setField_setBit (w : Word) (k n : Nat) (b : Bool) (v : BitVec n) (h : k + 1 + n ≤ 32) :
    setField (setBit w k b) (k + 1) v = setField w k (ofBool b ++ v) := by
  refine word_ext fun i hi => ?_
  rw [bitAt_setField _ _ _ _ h hi, bitAt_setBit _ _ _ _ (by omega) hi, bitAt_setField _ _ _ _ (by omega) hi,
    BitVec.getMsbD_append]
  by_cases hfirst : i = k
  · subst hfirst
    cases b <;> simp [ofBool]
  · by_cases hrest : k + 1 ≤ i ∧ i < k + 1 + n
    · rw [if_pos hrest, if_pos (by omega), if_pos (by omega), Nat.sub_sub]
    · rw [if_neg hrest, if_neg hfirst, if_neg (by omega)]

/-! ### Interrupt entry -/

theorem vector_eq (c : Config) (o : BitVec 9) : vector c o = place c.ivpr 0 ||| place o 23 := by
  rw [vector, place, place, show 32 - 23 - 9 = 0 from rfl, BitVec.shiftLeft_zero]

/-- What interrupt entry keeps of the MSR: SIBRC and, unless it clears it, ME (60_exceptions.md R510). -/
theorem entry_msr (s : State) (clearMe : Bool) :
    s.msr &&& (if clearMe then 0x00700000 else 0x00701000) = place s.sibrc 9 ||| place (ofBool (!clearMe && s.me)) 19 := by
  have hsibrc : s.msr &&& 0x00700000 = place s.sibrc 9 := and_place_ones s.msr 9 3 (by omega)
  have hme : s.msr &&& 0x00001000 = place (ofBool s.me) 19 := by
    rw [State.me, ← bits_one _ _ (by omega)]
    exact and_place_ones s.msr 19 1 (by omega)
  cases clearMe with
  | true => exact hsibrc.trans BitVec.or_zero.symm
  | false =>
    calc s.msr &&& 0x00701000 = s.msr &&& (0x00700000 ||| 0x00001000) := rfl
      _ = _ := by rw [BitVec.and_or_distrib_left, hsibrc, hme, Bool.not_false, Bool.true_and]

theorem enter_eq_entered (o : BitVec 9) (clearMe : Bool) (a : Word) (s : State) : enter o clearMe a s = s.entered o (!clearMe) a := by
  rw [enter, entry_msr, vector_eq, wordAlign_eq_and_not]
  rfl

theorem haltAtVector_entered (o : BitVec 9) (keepMe : Bool) (a : Word) (s : State) :
    haltAtVector (s.entered o keepMe a) = s.haltedEntry o keepMe a := rfl

/-- Settles O46: the entry of an interrupt, bit by bit. -/
theorem interruptEntry : Obligations.InterruptEntry := by
  intro o clearMe a s
  have hsrr0 : ∀ i < 32, bitAt 0xFFFFFFFC#32 i = decide (i < 30) := by decide
  have hmsr : ∀ i < 32, bitAt (if clearMe then 0x00700000 else 0x00701000) i =
      (decide (9 ≤ i ∧ i ≤ 11) || (decide (i = 19) && !clearMe)) := by
    cases clearMe <;> decide
  refine ⟨_, rfl, rfl, fun i hi => ?_, fun i hi => ?_, ?_, ?_⟩
  · rw [← hsrr0 i hi]
    exact BitVec.getMsbD_and
  · rw [← hmsr i hi]
    exact BitVec.getMsbD_and
  · change bits (vector s.cfg o) 0 23 = _
    rw [vector_eq, bits_or, bits_place_self _ _ (by omega), bits_place_disjoint _ _ _ _ (by omega) (by omega) (by omega)]
    exact BitVec.or_zero
  · change bits (vector s.cfg o) 23 9 = _
    rw [vector_eq, bits_or, bits_place_self _ _ (by omega), bits_place_disjoint _ _ _ _ (by omega) (by omega) (by omega)]
    exact BitVec.zero_or

/-! ### Machine checks -/

theorem mcVec_eq_machineCheckOffset (v : Variant) : mcVec v = machineCheckOffset v := by cases v <;> rfl

theorem recordMachineCheck_eq (mfe : Bool) (mcs : BitVec 3) (s : State) :
    recordMachineCheck mfe mcs s = { s with isr := setField s.isr 28 (ofBool mfe ++ mcs) } := by
  rw [recordMachineCheck, setField_setBit s.isr 28 3 mfe mcs (by omega)]

theorem machineCheck_recorded (mfe : Bool) (mcs : BitVec 3) (a : Word) (s : State) :
    machineCheck a (recordMachineCheck mfe mcs s) = s.machineChecked mfe mcs a := by
  simp only [machineCheck, enter_eq_entered, recordMachineCheck_eq, mcVec_eq_machineCheckOffset]
  rfl

/-- The report of imprecise errors gives one of their addresses (60_exceptions.md R514; log 23). -/
theorem reportImprecise_eq (s : State) (h : s.pending ≠ []) :
    ∃ a ∈ s.pending, ∃ f : Nat, reportImprecise s = s.errorsReported a f := by
  have hlen : 0 < s.pending.length := List.length_pos_iff.2 h
  have hmem (i : Nat) (hi : i < s.pending.length) : s.pending.getD i 0 ∈ s.pending := by
    rw [List.getD_eq_getElem _ _ hi]
    exact List.getElem_mem hi
  refine ⟨_, hmem _ ?_, _, machineCheck_recorded _ _ _ _⟩
  split
  · exact Nat.mod_lt _ hlen
  · exact hlen

theorem synchronised_pending (s t : State) (h : s.pending ≠ []) : synchronised s t = reportImprecise s := by
  rw [synchronised, if_neg (by simpa using h)]

theorem raise_pending (e : Exception) (s : State) (h : s.pending ≠ []) : raise e s = reportImprecise s :=
  synchronised_pending s _ h

theorem takeAsync_pending (a : Async) (s : State) (h : s.pending ≠ []) : takeAsync a s = reportImprecise s :=
  synchronised_pending s _ h

theorem fetchMachineCheck_eq (s : State) (h : s.pending = []) : fetchMachineCheck s = s.machineChecked false 0 s.iar := by
  rw [fetchMachineCheck, if_pos (by simpa using h), machineCheck_recorded]

/-! ### Dispatch -/

/-- An exception is recorded in the ISR and the EDR, and then goes by the MSR. -/
theorem dispatch_eq_dispatched (e : Exception) (s : State) : dispatch e s = (e.record s).dispatched e.offset e.promotedCode := by
  have huie : (e.record s).uie = s.uie := by cases e <;> rfl
  have hme : (e.record s).me = s.me := by cases e <;> rfl
  have hiar : (e.record s).iar = s.iar := by cases e <;> rfl
  simp only [dispatch, State.dispatched, haltAtVector_entered, enter_eq_entered, machineCheck_recorded, huie, hme, hiar, Bool.not_false]

theorem raise_eq_dispatched (e : Exception) (s : State) (h : s.pending = []) :
    raise e s = (e.record s).dispatched e.offset e.promotedCode := by
  rw [raise_precise s e h, dispatch_eq_dispatched]

/-- Settles O47. -/
theorem unmaskableInterruptDispatch : Obligations.UnmaskableInterruptDispatch := fun s _ _ _ h =>
  ⟨raise_eq_dispatched _ s h, raise_eq_dispatched _ s h, raise_eq_dispatched _ s h, raise_eq_dispatched _ s h⟩

theorem illegal_eq (s : State) (h : s.pending = []) : illegal s = s.programInterrupt false := raise_eq_dispatched _ s h

/-! ### Context synchronisation -/

theorem contextSync_done (s t : State) (h : s.pending = [] ∨ s.xsr.rip = true) : contextSync s t = t := by
  unfold contextSync
  split
  · rfl
  next hrip => exact synchronised_precise s t (h.resolve_right hrip)

theorem contextSync_pending (s t : State) (h : s.pending ≠ []) (hrip : s.xsr.rip = false) :
    contextSync s t = reportImprecise s := by
  rw [contextSync, if_neg (by simp [hrip]), synchronised_pending s t h]

/-- Settles O44. -/
theorem returnFromInterruptResult : Obligations.ReturnFromInterruptResult := fun s h =>
  congrArg Host.Outcome.next (contextSync_done s _ h)

/-! ### Debug halts -/

theorem debugHalt_iac (s : State) (h : s.xsr.rip = false) :
    debugHalt .iac s = s.debugHalted fun x => { x with iac := true } := by
  simp [debugHalt, recordDebug, raiseHalt, State.debugHalted, h]

theorem debugHalt_data (store : Bool) (s : State) (h : s.xsr.rip = false) :
    debugHalt (if store then .wdac else .rdac) s =
      s.debugHalted fun x => if store then { x with wdac := true } else { x with rdac := true } := by
  cases store <;> simp [debugHalt, recordDebug, raiseHalt, State.debugHalted, h]

/-! ### Traps and illegal instructions -/

theorem definedGpr_eq (n : BitVec 5) : definedGpr n = gprNumbers.contains n := by revert n; decide

theorem tw_marked (s : State) (cond ra rb : BitVec 5) (tg : Bool) (h : (s.isX && tg) = true) :
    exec (.tw cond ra rb tg) s = .next s.advance := congrArg Host.Outcome.next (if_pos h)

/-- A `tw` that is no mark of the PPE 42X, by its register fields and TO (49_system.md R448). -/
theorem tw_unmarked (s : State) (cond ra rb : BitVec 5) (tg : Bool) (h : (s.isX && tg) = false) :
    exec (.tw cond ra rb tg) s = .next (
      if (gprNumbers.contains ra && gprNumbers.contains rb) = false then illegal s
      else if cond = 0 then s.advance
      else if cond ≠ 31 then illegal s
      else if bitAt s.dbcr 7 then debugHalt .trap s
      else raise (.program true) s) := by
  change Host.Outcome.next _ = _
  simp only [h, definedGpr_eq, Bool.not_eq_true', if_neg Bool.false_ne_true]

theorem tw_illegal (s : State) (cond ra rb : BitVec 5) (tg : Bool) (h : (s.isX && tg) = false)
    (hform : (gprNumbers.contains ra && gprNumbers.contains rb) = false ∨ (cond ≠ 0 ∧ cond ≠ 31)) :
    exec (.tw cond ra rb tg) s = .next (illegal s) := by
  rw [tw_unmarked s cond ra rb tg h]
  rcases hform with hundefined | ⟨hzero, htrap⟩
  · rw [if_pos hundefined]
  · rw [if_neg hzero, if_pos htrap, ite_self]

/-- Settles O45. -/
theorem trapAndMarkResults : Obligations.TrapAndMarkResults := by
  intro s cond ra rb tg tagged defined
  have hdefined (hd : defined = true) : ¬ defined = false := by simp [hd]
  refine ⟨fun ht => ?_, fun ht hd => ?_, fun ht hd hhalt => ?_, fun ht hd hhalt hp => ?_, fun ht hform hp => ?_⟩
  · rw [tw_marked s cond ra rb tg ht, advance_eq_nia]
  · rw [tw_unmarked s 0 ra rb tg ht, if_neg (hdefined hd), if_pos rfl, advance_eq_nia]
  · rw [tw_unmarked s 31 ra rb tg ht, if_neg (hdefined hd), if_neg (by decide), if_neg (by decide), if_pos hhalt]
    rfl
  · rw [tw_unmarked s 31 ra rb tg ht, if_neg (hdefined hd), if_neg (by decide), if_neg (by decide), if_neg (by simp [hhalt]),
      raise_eq_dispatched _ s hp]
    rfl
  · rw [tw_illegal s cond ra rb tg ht hform, illegal_eq s hp]

theorem sprNumbers_contains (n : BitVec 10) (h : sprNumbers.contains n = false) :
    ∀ k ∈ sprNumbers, n.toNat ≠ k.toNat := by
  intro k hk heq
  rw [BitVec.eq_of_toNat_eq heq, List.contains_iff_mem.2 hk] at h
  cases h

/-- `mfspr` of a number that is no SPR's has no value. -/
theorem readSpr_none (n : BitVec 10) (s : State) (h : sprNumbers.contains n = false) : readSpr n s = none := by
  have hne := sprNumbers_contains n h
  simp only [sprNumbers, List.forall_mem_cons] at hne
  unfold readSpr
  split
  case h_17 => rfl
  all_goals simp_all

/-- `mtspr` of a number that is no writable SPR's has no effect. -/
theorem writeSpr_none (n : BitVec 10) (v : Word) (s : State) (h : (sprNumbers.contains n && !readOnlySprs.contains n) = false) :
    writeSpr n v s = none := by
  have hne : ∀ k ∈ ([1, 8, 9, 22, 26, 27, 61, 62, 272, 308, 316, 336, 340] : List (BitVec 10)), n.toNat ≠ k.toNat := by
    intro k hk heq
    have hwritable : ∀ k ∈ ([1, 8, 9, 22, 26, 27, 61, 62, 272, 308, 316, 336, 340] : List (BitVec 10)),
        (sprNumbers.contains k && !readOnlySprs.contains k) = true := by decide
    rw [BitVec.eq_of_toNat_eq heq, hwritable k hk] at h
    cases h
  simp only [List.forall_mem_cons] at hne
  unfold writeSpr
  split
  case h_14 => rfl
  all_goals simp_all

/-- An instruction that is not a valid form on the variant is illegal: most check their form first, the moves of SPRs find no SPR of the
number (30_encoding.md R176, R178). -/
theorem exec_illFormed (i : Instr) (s : State) (h : i.wellFormed s.cfg.variant = false) : exec i s = .next (illegal s) := by
  cases i with
  | mfspr rt n =>
    change Host.Outcome.next _ = _
    rw [readSpr_none n s h]
  | mtspr n rs =>
    change Host.Outcome.next _ = _
    rw [writeSpr_none n _ s h]
  | tw cond ra rb tg =>
    obtain ⟨htag, hfields⟩ : (s.isX && tg) = false ∧
        ((gprNumbers.contains ra && gprNumbers.contains rb) = false ∨ (cond ≠ 0 ∧ cond ≠ 31)) := by
      simp only [Instr.wellFormed, validTw, Bool.or_eq_false_iff, Bool.and_eq_false_iff, decide_eq_false_iff_not] at h
      simp only [State.isX, Bool.and_eq_false_iff, decide_eq_false_iff_not]
      tauto
    exact tw_illegal s cond ra rb tg htag hfields
  | mulli | mullw | rldicl | rldicr | rldimi | slvd | srvd | bc | bcctr | bclr | lbzu | lhzu | lwzu | lvdu | stbu | sthu | stwu
  | stvdu | lsku | lcxu | stsku | stcxu => exact congrArg Host.Outcome.next (validForm_invalid _ s _ h)
  | _ => cases h

end Sys2Proof.Machine
end

section
/-! PROOFS. The step of a running core (60_exceptions.md R505): one pass of the processing order on the state in which it begins, case by
case up to the fetch. -/

namespace Sys2Proof.Machine

/-! ### The steps of a core out of reset -/

theorem step_of_stimuli_nil {s : State} (h : s.stimuli = []) : step s = coreStep (s.latched s.ir) := by
  have hqueue : (s.latched s.ir).stimuli = [] := h
  simp only [step, nextStep, beginStep_eq_latched, hqueue]

theorem sampleHaltReq_inactive (s : State) (h : s.pins.haltReq = false) : sampleHaltReq s = s := by
  simp [sampleHaltReq, h]

theorem step_eq_instructionStep {s : State} (hq : s.stimuli = []) (hr : s.resetting = none) (hp : s.pins.hresetReq = false)
    (hh : s.pins.haltReq = false) : step s = instructionStep (s.latched s.ir) := by
  rw [step_of_stimuli_nil hq, coreStep_running (s.latched s.ir) hr hp, sampleHaltReq_inactive (s.latched s.ir) hh]

theorem instructionStep_ramming {s : State} (h : s.xsr.rip = true) : instructionStep s = finish (runWord s.ir s) := by
  simp [instructionStep, State.halted, h]

theorem step_ramming {s : State} (hq : s.stimuli = []) (hr : s.resetting = none) (hp : s.pins.hresetReq = false)
    (hh : s.pins.haltReq = false) (hrip : s.xsr.rip = true) : step s = finish (runWord s.ir (s.latched s.ir)) := by
  rw [step_eq_instructionStep hq hr hp hh]
  exact instructionStep_ramming (s := s.latched s.ir) hrip

theorem instructionStep_onePass {s : State} (hrip : s.xsr.rip = false) (h : s.xsr.hcp = false ∨ s.xsr.sip = true) :
    instructionStep s = finish (onePass s) := by
  rcases h with h | h <;> simp [instructionStep, State.halted, hrip, h]

theorem step_running {s : State} (h : s.running) : step s = finish (onePass (s.latched s.ir)) := by
  obtain ⟨hq, hr, hp, hh, hrip, hruns⟩ := h
  rw [step_eq_instructionStep hq hr hp hh]
  exact instructionStep_onePass (s := s.latched s.ir) hrip hruns

/-! ### One pass -/

theorem onePass_of_taken {s t : State} (h : fetchNext s = .taken t) : onePass s = .next t := by rw [onePass, h]

theorem onePass_of_done {s t : State} {w : Word} (h : fetchNext s = .done w t) : onePass s = runWord w t := by rw [onePass, h]

theorem fetchNext_async {s : State} {a : Async} (h : s.asyncTaken = some a) : fetchNext s = .taken (takeAsync a s) := by
  simp only [fetchNext, h]

theorem fetchNext_waiting {s : State} (ha : s.asyncTaken = none) (hw : s.we = true) : fetchNext s = .taken s := by
  simp only [fetchNext, ha, hw, if_true]

theorem fetchNext_compare {s : State} (ha : s.asyncTaken = none) (hw : s.we = false) (hc : iacMatch s = true) :
    fetchNext s = .taken (debugHalt .iac s) := by
  simp only [fetchNext, ha, hw, hc, if_true, if_neg Bool.false_ne_true]

theorem fetchNext_of_taken {s t : State} (ha : s.asyncTaken = none) (hw : s.we = false) (hc : iacMatch s = false)
    (hf : fetch s = .taken t) : fetchNext s = .taken t := by
  simp only [fetchNext, ha, hw, hc, hf, if_neg Bool.false_ne_true]

theorem fetchNext_of_done {s : State} {w : Word} (ha : s.asyncTaken = none) (hw : s.we = false) (hc : iacMatch s = false)
    (hf : fetch s = .done w s) : fetchNext s = .done w { s with ir := w } := by
  simp only [fetchNext, ha, hw, hc, hf, if_neg Bool.false_ne_true]

/-- A word that the memory subsystem gives, from ordinary memory or from the SIB, is the big-endian word at the IAR. -/
theorem fetch_done {s : State} (h : s.sys.fetchReply s.iar = .ok ∨ s.sys.fetchReply s.iar = .sib 0) :
    fetch s = .done (readWord s.mem s.iar) s := by
  rcases h with h | h <;> simp only [fetch, h, if_true]

theorem onePass_fetches {s : State} (h : s.fetches) :
    onePass s = runWord (readWord s.mem s.iar) { s with ir := readWord s.mem s.iar } := by
  obtain ⟨ha, hw, hc, hf⟩ := h
  exact onePass_of_done (fetchNext_of_done ha hw hc (fetch_done hf))

theorem step_fetches {s : State} (hr : s.running) (hf : s.fetches) :
    step s = finish (runWord (readWord s.mem s.iar) (s.latched (readWord s.mem s.iar))) := by
  rw [step_running hr]
  exact congrArg finish (onePass_fetches (s := s.latched s.ir) hf)

theorem runWord_ok {w : Word} {s : State} {i : Instr} (h : decode s.cfg.fcb w = .ok i) : runWord w s = exec i s := by
  simp only [runWord, h]

theorem runWord_error {w : Word} {s : State} {e : DecodeError} (h : decode s.cfg.fcb w = .error e) :
    runWord w s = .next (illegal s) := by
  simp only [runWord, h]

theorem step_fetches_decoded {s : State} {i : Instr} (hr : s.running) (hf : s.fetches)
    (hd : decode s.cfg.fcb (readWord s.mem s.iar) = .ok i) : step s = finish (exec i (s.latched (readWord s.mem s.iar))) := by
  rw [step_fetches hr hf]
  exact congrArg finish (runWord_ok (s := s.latched _) hd)

/-- Settles O6. -/
theorem stepRunsDecodedInstruction : Obligations.StepRunsDecodedInstruction := by
  refine ⟨fun s i hr hf hd => step_fetches_decoded hr hf hd, fun s i hq hr hp hh hrip hd => ?_⟩
  rw [step_ramming hq hr hp hh hrip]
  exact congrArg finish (runWord_ok (s := s.latched _) hd)

/-- Settles O7. -/
theorem illegalInstructionTakesProgramInterrupt : Obligations.IllegalInstructionTakesProgramInterrupt := by
  refine ⟨fun s e hr hf hp hd => ?_, fun s i hi hp => ?_⟩
  · rw [step_fetches hr hf, runWord_error (s := s.latched _) hd, illegal_eq (s.latched _) hp]
  · rw [exec_illFormed i s hi, illegal_eq s hp]

/-! ### Asynchronous interrupts -/

theorem step_async {s : State} {a : Async} (hr : s.running) (ha : s.asyncTaken = some a) :
    step s = finish (.next (takeAsync a (s.latched s.ir))) := by
  rw [step_running hr]
  exact congrArg finish (onePass_of_taken (fetchNext_async (s := s.latched s.ir) ha))

theorem step_async_precise {s : State} {a : Async} (hr : s.running) (hp : s.pending = []) (ha : s.asyncTaken = some a) :
    step s = finish (.next ((s.latched s.ir).entered a.offset true s.iar)) := by
  rw [step_async hr ha, takeAsync_precise (s.latched s.ir) a hp, enter_eq_entered]
  rfl

/-- Settles O48: which interrupt is taken is the first of the four in the order of their priority. -/
theorem asynchronousInterruptTaken : Obligations.AsynchronousInterruptTaken := by
  intro s hr hp hee wdt fit dec taken
  have htaken : s.asyncTaken = if wdt then some .watchdog else if s.pins.extIntr then some .external else
      if fit then some .fit else if dec then some .decrementer else none := if_pos hee
  have hstep (a : Async) (ha : s.asyncTaken = some a) : taken a.offset := step_async_precise hr hp ha
  refine ⟨fun hw => hstep .watchdog ?_, fun hw he => hstep .external ?_, fun hw he hf => hstep .fit ?_,
    fun hw he hf hd => hstep .decrementer ?_⟩
  · rw [htaken, hw, if_pos rfl]
  · rw [htaken, hw, he, if_neg Bool.false_ne_true, if_pos rfl]
  · rw [htaken, hw, he, hf, if_neg Bool.false_ne_true, if_neg Bool.false_ne_true, if_pos rfl]
  · rw [htaken, hw, he, hf, hd, if_neg Bool.false_ne_true, if_neg Bool.false_ne_true, if_neg Bool.false_ne_true, if_pos rfl]

/-- Settles O51: each of these ends in the report of the pending errors. -/
theorem impreciseErrorsReported : Obligations.ImpreciseErrorsReported := by
  intro s hp
  refine ⟨fun r i hi hsync => ?_, fun e => ?_, fun hr ha => ?_⟩
  · have hreport : exec i s = .next (reportImprecise s) := by
      simp only [List.mem_cons, List.not_mem_nil, or_false] at hi
      rcases hi with rfl | rfl | rfl | rfl
      · exact congrArg Host.Outcome.next (synchronised_pending s _ hp)
      all_goals exact congrArg Host.Outcome.next (contextSync_pending s _ hp (hsync.resolve_left (by simp)))
    obtain ⟨a, hmem, f, heq⟩ := reportImprecise_eq s hp
    exact ⟨a, hmem, f, hreport.trans (congrArg _ heq)⟩
  · rw [raise_pending e s hp]
    exact reportImprecise_eq s hp
  · obtain ⟨a, ha⟩ := Option.ne_none_iff_exists'.1 ha
    obtain ⟨e, hmem, f, heq⟩ := reportImprecise_eq (s.latched s.ir) hp
    refine ⟨e, hmem, f, ?_⟩
    rw [step_async hr ha, takeAsync_pending a (s.latched s.ir) hp, heq]

/-! ### The debug compares -/

/-- How many low-order bits of an address DBCR[ACS] leaves out of a compare, `finest` for the finest granularity of the PPE 42X
(62_debug_xir.md R630, R632). -/
def ignoredBits (finest : Nat) (s : State) : Nat :=
  match s.cfg.variant with
  | .ppe42 => 0
  | .ppe42x => match (bits s.dbcr 24 2).toNat with
    | 0 => finest
    | 1 => 2
    | 2 => 3
    | _ => 5

theorem iacMask_eq (s : State) : iacMask s = BitVec.allOnes 32 <<< ignoredBits 2 s := by
  unfold iacMask ignoredBits State.isX
  cases s.cfg.variant with
  | ppe42 => rfl
  | ppe42x =>
    simp only [decide_true, if_true]
    generalize bits s.dbcr 24 2 = acs
    revert acs
    decide

theorem dacMask_eq (s : State) : dacMask s = BitVec.allOnes 32 <<< ignoredBits 0 s := by
  unfold dacMask ignoredBits State.isX
  cases s.cfg.variant with
  | ppe42 => rfl
  | ppe42x =>
    simp only [decide_true, if_true]
    generalize bits s.dbcr 24 2 = acs
    revert acs
    decide

theorem toNat_and_allOnes_shiftLeft (a : Word) (k : Nat) : (a &&& BitVec.allOnes 32 <<< k).toNat = a.toNat / 2 ^ k * 2 ^ k := by
  have hshift : a &&& BitVec.allOnes 32 <<< k = (a >>> k) <<< k := by
    apply BitVec.eq_of_getLsbD_eq
    intro i hi
    rw [BitVec.getLsbD_and, BitVec.getLsbD_shiftLeft, BitVec.getLsbD_shiftLeft, BitVec.getLsbD_allOnes, BitVec.getLsbD_ushiftRight]
    by_cases hk : i < k
    · simp [hk]
    · rw [show k + (i - k) = i by omega, decide_eq_true (show i - k < 32 by omega), Bool.and_true, Bool.and_comm]
  have hle : a.toNat / 2 ^ k * 2 ^ k ≤ a.toNat := Nat.div_mul_le_self _ _
  rw [hshift, BitVec.toNat_shiftLeft, BitVec.toNat_ushiftRight, Nat.shiftLeft_eq, Nat.shiftRight_eq_div_pow,
    Nat.mod_eq_of_lt (hle.trans_lt a.isLt)]

/-- Two addresses are equal in a compare where they are without the low-order bits that it leaves out. -/
theorem masked_eq_iff (a b : Word) (k : Nat) :
    a &&& BitVec.allOnes 32 <<< k = b &&& BitVec.allOnes 32 <<< k ↔ a.toNat / 2 ^ k = b.toNat / 2 ^ k := by
  rw [← BitVec.toNat_inj, toNat_and_allOnes_shiftLeft, toNat_and_allOnes_shiftLeft]
  exact Nat.mul_left_inj (Nat.two_pow_pos k).ne'

theorem iacMatch_iff (s : State) :
    iacMatch s = true ↔
      (bitAt s.dbcr 8 = true ∧ s.iar.toNat / 2 ^ ignoredBits 2 s = s.dacr.toNat / 2 ^ ignoredBits 2 s) ∨
        (s.cfg.variant = .ppe42x ∧ bitAt s.dbcr 29 = true ∧ s.iar = 0) := by
  rw [iacMatch, iacMask_eq]
  simp only [Bool.or_eq_true, Bool.and_eq_true, decide_eq_true_eq, masked_eq_iff, isX_iff, and_assoc]

/-- Settles O49. -/
theorem waitAndInstructionCompare : Obligations.WaitAndInstructionCompare := by
  intro s hr ha ignored hit word
  have hhit : iacMatch s = true ↔ hit := iacMatch_iff s
  refine ⟨fun hw => ?_, hhit, fun hw hmatch => ?_, fun hw hmatch hf i hd => ?_⟩
  · rw [step_running hr]
    exact congrArg finish (onePass_of_taken (fetchNext_waiting (s := s.latched s.ir) ha hw))
  · obtain ⟨-, -, -, -, hrip, -⟩ := id hr
    rw [step_running hr, ← debugHalt_iac (s.latched s.ir) hrip]
    exact congrArg finish (onePass_of_taken (fetchNext_compare (s := s.latched s.ir) ha hw (hhit.2 hmatch)))
  · exact step_fetches_decoded hr ⟨ha, hw, Bool.eq_false_iff.2 (mt hhit.1 hmatch), .inl hf⟩ hd

/-! ### Rejected fetches -/

theorem fetch_isi {s : State} (h : s.sys.fetchReply s.iar = .isi) (hp : s.pending = []) :
    fetch s = .taken (s.dispatched 0x080 5) := by
  simp only [fetch, h, raise_eq_dispatched _ s hp]
  rfl

theorem fetch_error {s : State} (h : s.sys.fetchReply s.iar = .error) (hp : s.pending = []) :
    fetch s = .taken (s.machineChecked false 0 s.iar) := by
  simp only [fetch, h, fetchMachineCheck_eq s hp]

theorem fetch_sib {s : State} {c : BitVec 3} (hc : c ≠ 0) (h : s.sys.fetchReply s.iar = .sib c) (hp : s.pending = []) :
    fetch s = .taken ((s.sibSeen c).machineChecked false 0 s.iar) := by
  simp only [fetch, h, if_neg hc, fetchMachineCheck_eq (sibComplete c s) hp]
  rfl

/-- Settles O50. -/
theorem rejectedFetchTakesInterrupt : Obligations.RejectedFetchTakesInterrupt := by
  intro s hr ha hw hc hp t
  have hstep (u : State) (hf : fetch t = .taken u) : step s = finish (.next u) := by
    rw [step_running hr]
    exact congrArg finish (onePass_of_taken (fetchNext_of_taken (s := t) ha hw hc hf))
  exact ⟨fun h => hstep _ (fetch_isi (s := t) h hp), fun h => hstep _ (fetch_error (s := t) h hp),
    fun c hne h => hstep _ (fetch_sib (s := t) hne h hp), fun h i hd => step_fetches_decoded hr ⟨ha, hw, hc, .inr h⟩ hd⟩

end Sys2Proof.Machine
end

section
/-! PROOFS. What comes of a data request that no compare stops (60_exceptions.md R505 steps 6 and 7): it stops with an interrupt, or it is done
in the state in which its SIB code is seen and its error is pending. -/

namespace Sys2Proof.Machine

/-! ### The reply's own part of the state -/

theorem answered_eq (s : State) (reply : DataReply) : s.answered reply = { s with msr := (s.answered reply).msr } := by
  cases reply <;> rfl

theorem accepted_eq (s : State) (mcs : Bool) (a : Word) (reply : DataReply) :
    s.accepted mcs a reply =
      { s with msr := (s.accepted mcs a reply).msr, pending := (s.accepted mcs a reply).pending } := by
  unfold State.accepted
  split <;> rw [answered_eq]

theorem answered_pending (s : State) (reply : DataReply) : (s.answered reply).pending = s.pending := by rw [answered_eq]

theorem accepted_of_replyError_none {s : State} {mcs : Bool} {a : Word} {reply : DataReply}
    (h : s.replyError mcs a reply = none) : s.accepted mcs a reply = s.answered reply := by
  simp only [State.accepted, h]

theorem accepted_of_replyError_some {s : State} {mcs store : Bool} {a e : Word} {reply : DataReply}
    (h : s.replyError mcs a reply = some (store, e)) :
    s.accepted mcs a reply = { s.answered reply with pending := s.pending ++ [e] } := by
  simp only [State.accepted, h]

/-- A rejected error: not one to report later. -/
theorem rejected_of_replyError_some {s : State} {st mcs store : Bool} {a e : Word} {reply : DataReply}
    (h : s.replyError mcs a reply = some (store, e)) :
    s.rejected st mcs a reply =
      if store = true ∧ s.impreciseMode = true then none
      else some ({ s.answered reply with edr := e }.machineChecked false (if store then 2 else 1) s.iar) := by
  cases reply <;> simp_all [State.rejected, State.replyError]

theorem rejected_of_replyError_none {s : State} {st mcs : Bool} {a : Word} {reply : DataReply}
    (h : s.replyError mcs a reply = none) (hd : reply ≠ .dsi) (ha : reply ≠ .align) : s.rejected st mcs a reply = none := by
  cases reply <;> simp_all [State.rejected]

theorem reportsNow_precise {s : State} (h : s.pending = []) : s.reportsNow = false := by simp [State.reportsNow, h]

theorem reportsNow_pending {s : State} (h : s.reportsNow = true) : s.pending ≠ [] := by
  intro hp
  rw [reportsNow_precise hp] at h
  cases h

theorem reportsNow_iff (s : State) : s.reportsNow = true ↔
    s.pending ≠ [] ∧ (s.xsr.rip = true ∨ s.cfg.reportAtAccess = true ∨ s.cfg.maxStores ≤ s.pending.length) := by
  simp only [State.reportsNow, Bool.and_eq_true, Bool.not_eq_true', Bool.or_eq_true, decide_eq_true_eq, or_assoc,
    List.isEmpty_eq_false_iff, ne_eq]

/-! ### Errors -/

theorem dataMachineCheck_eq_synchronised (store : Bool) (a : Word) (s : State) :
    dataMachineCheck store a s = synchronised s ({ s with edr := a }.machineChecked false (if store then 2 else 1) s.iar) :=
  congrArg (synchronised s) (machineCheck_recorded false (if store then 2 else 1) s.iar { s with edr := a })

theorem dataError_deferred {q : Request} {a : Word} {s : State} (hq : q.mcs = true) (hi : s.impreciseMode = true) :
    dataError q a s = .done .deferred { s with pending := s.pending ++ [a] } := by
  rw [dataError, hq, hi]
  rfl

theorem dataError_taken {q : Request} {a : Word} {s : State} (h : ¬(q.mcs = true ∧ s.impreciseMode = true)) :
    dataError q a s =
      .taken (synchronised s ({ s with edr := a }.machineChecked false (if q.mcs then 2 else 1) s.iar)) := by
  rw [dataError, if_neg (by simpa using h), dataMachineCheck_eq_synchronised]

/-- SIBRC and SIBRCA are not read by what decides on an error. -/
theorem sibSeen_impreciseMode (s : State) (c : BitVec 3) : (s.sibSeen c).impreciseMode = s.impreciseMode := by
  have hbit : bitAt (s.sibSeen c).msr 23 = bitAt s.msr 23 := by
    have hc := c.isLt
    change bitAt (setBit (setField s.msr 9 c) (24 + c.toNat) true) 23 = _
    rw [bitAt_setBit _ _ _ _ (by omega) (by omega), if_neg (by omega), bitAt_setField _ _ _ _ (by omega) (by omega),
      if_neg (by omega)]
  rw [State.impreciseMode, hbit]
  rfl

/-! ### Requests that no compare stops -/

section
variable {q : Request} {a : Word} {reply : DataReply} {s : State}

/-- No data compare stops the request: the core rams, or none matches (62_debug_xir.md R632, R650). -/
def State.uncompared (s : State) (store : Bool) (a : Word) : Prop := s.xsr.rip = true ∨ dacMatch store a s = false

theorem uncompared_iff {store : Bool} : s.uncompared store a ↔ (!s.xsr.rip && dacMatch store a s) = false := by
  simp only [State.uncompared, Bool.and_eq_false_iff, Bool.not_eq_false']

theorem request_reportsNow (hc : s.uncompared q.dac a) (hr : s.reportsNow = true) :
    request q a reply s = .taken (reportImprecise s) := by
  rw [uncompared_iff] at hc
  have hpending := reportsNow_pending hr
  cases reply <;> simp only [request, hc, hr, raise_pending _ s hpending, if_true, if_neg Bool.false_ne_true]

theorem request_error (hc : s.uncompared q.dac a) (hr : s.reportsNow = false) : request q a .error s = dataError q a s := by
  rw [uncompared_iff] at hc
  simp only [request, hc, hr, if_neg Bool.false_ne_true]

theorem request_writeBack {line : Word} (hc : s.uncompared q.dac a) (hr : s.reportsNow = false) :
    request q a (.writeBack line) s = writeBackError line s := by
  rw [uncompared_iff] at hc
  simp only [request, hc, hr, if_neg Bool.false_ne_true]

theorem request_sib {c : BitVec 3} (hc : s.uncompared q.dac a) (hr : s.reportsNow = false) :
    request q a (.sib c) s = sibAccess q a c s := by
  rw [uncompared_iff] at hc
  simp only [request, hc, hr, if_neg Bool.false_ne_true]

theorem sibAccess_masked {c : BitVec 3} (hm : s.masks (.sib c) = true) : sibAccess q a c s = .done .masked (s.sibSeen c) := by
  simp only [State.masks, Bool.and_eq_true, decide_eq_true_eq] at hm
  obtain ⟨hne, hbit⟩ := hm
  rw [sibAccess, if_neg hne, sibMasked, if_pos hbit]
  rfl

theorem sibAccess_error {c : BitVec 3} (hne : c ≠ 0) (hm : s.masks (.sib c) = false) :
    sibAccess q a c s = dataError q a (s.sibSeen c) := by
  have hbit : ¬ bitAt s.msr c.toNat = true := by
    rw [State.masks, decide_eq_true hne, Bool.true_and] at hm
    exact Bool.eq_false_iff.1 hm
  rw [sibAccess, if_neg hne, sibMasked, if_neg hbit]
  rfl

theorem replyError_sib_done (mcs : Bool) {c : BitVec 3} (h : c = 0 ∨ s.masks (.sib c) = true) :
    s.replyError mcs a (.sib c) = none := if_pos h

theorem replyError_sib_error (mcs : Bool) {c : BitVec 3} (hne : c ≠ 0) (hm : s.masks (.sib c) = false) :
    s.replyError mcs a (.sib c) = some (mcs, a) := if_neg (not_or.2 ⟨hne, Bool.eq_false_iff.1 hm⟩)

/-- A request that is rejected and at which no error is reported ends in its interrupt, after execution synchronisation. -/
theorem request_rejected {t : State} (hc : s.uncompared q.dac a) (hr : s.reportsNow = false)
    (ht : s.rejected q.st q.mcs a reply = some t) : request q a reply s = .taken (synchronised (s.answered reply) t) := by
  have hcompare := uncompared_iff.1 hc
  cases reply with
  | dsi =>
    obtain rfl := Option.some.inj ht
    simp only [request, hcompare, if_neg Bool.false_ne_true]
    exact congrArg (fun u => Access.taken (synchronised s u)) (dispatch_eq_dispatched _ s)
  | align =>
    obtain rfl := Option.some.inj ht
    simp only [request, hcompare, if_neg Bool.false_ne_true]
    exact congrArg (fun u => Access.taken (synchronised s u)) (dispatch_eq_dispatched _ s)
  | error =>
    rw [rejected_of_replyError_some (store := q.mcs) (e := a) rfl] at ht
    split at ht
    · cases ht
    next hprecise =>
      obtain rfl := Option.some.inj ht
      rw [request_error hc hr, dataError_taken hprecise]
      rfl
  | writeBack line =>
    rw [rejected_of_replyError_some (store := true) (e := line) rfl] at ht
    split at ht
    · cases ht
    next hprecise =>
      obtain rfl := Option.some.inj ht
      rw [request_writeBack hc hr, writeBackError, dataError_taken (q := .store) hprecise]
      rfl
  | sib c =>
    by_cases hok : c = 0 ∨ s.masks (.sib c) = true
    · rw [rejected_of_replyError_none (replyError_sib_done _ hok) (by simp) (by simp)] at ht
      cases ht
    · obtain ⟨hne, hmask⟩ := not_or.1 hok
      have hmask := Bool.eq_false_iff.2 hmask
      rw [rejected_of_replyError_some (replyError_sib_error _ hne hmask)] at ht
      split at ht
      · cases ht
      next hprecise =>
        obtain rfl := Option.some.inj ht
        rw [request_sib hc hr, sibAccess_error hne hmask, dataError_taken (by rwa [sibSeen_impreciseMode])]
        rfl
  | ok => cases ht

/-- A masked SIB code: the access is done, its value free (20_memory.md R138). -/
theorem request_masked (hc : s.uncompared q.dac a) (hr : s.reportsNow = false) (hm : s.masks reply = true) :
    request q a reply s = .done .masked (s.accepted q.mcs a reply) := by
  cases reply with
  | sib c =>
    rw [request_sib hc hr, sibAccess_masked hm, accepted_of_replyError_none (replyError_sib_done _ (.inr hm))]
    rfl
  | _ => cases hm

/-- A request that goes on without an error of its own succeeds; a failed write-back that it provoked is pending. -/
theorem request_succeeds (hc : s.uncompared q.dac a) (hg : s.goesOn q.st q.mcs a reply) (hs : s.succeeds q.mcs a reply) :
    request q a reply s = .done .plain (s.accepted q.mcs a reply) := by
  obtain ⟨hr, hgo⟩ := hg
  obtain ⟨hmask, hown⟩ := hs
  cases reply with
  | dsi => cases hgo
  | align => cases hgo
  | error => simp [State.replyError] at hown
  | writeBack line =>
    rw [rejected_of_replyError_some (store := true) (e := line) rfl] at hgo
    split at hgo
    next himprecise =>
      rw [request_writeBack hc hr, writeBackError, dataError_deferred (q := .store) rfl himprecise.2]
      rfl
    · cases hgo
  | sib c =>
    have hnone : s.replyError q.mcs a (.sib c) = none := hown.resolve_left (by simp)
    have hzero : c = 0 := by
      by_contra hne
      rw [replyError_sib_error _ hne hmask] at hnone
      cases hnone
    rw [request_sib hc hr, sibAccess, if_pos hzero, accepted_of_replyError_none hnone]
    rfl
  | ok => exact request_granted q a s hc hr

/-- A store error in imprecise mode is pending, and the store is not done (20_memory.md R125; log 7). -/
theorem request_deferred (hc : s.uncompared q.dac a) (hg : s.goesOn q.st q.mcs a reply) (hm : s.masks reply = false)
    (hs : ¬ s.succeeds q.mcs a reply) : request q a reply s = .done .deferred (s.accepted q.mcs a reply) := by
  obtain ⟨hr, hgo⟩ := hg
  cases reply with
  | dsi => cases hgo
  | align => cases hgo
  | error =>
    rw [rejected_of_replyError_some (store := q.mcs) (e := a) rfl] at hgo
    split at hgo
    next himprecise =>
      obtain ⟨hmcs, himprecise⟩ := himprecise
      rw [request_error hc hr, dataError_deferred hmcs himprecise]
      rfl
    · cases hgo
  | writeBack line => exact absurd ⟨hm, .inl ⟨line, rfl⟩⟩ hs
  | sib c =>
    have hne : c ≠ 0 := by
      rintro rfl
      exact hs ⟨hm, .inr (replyError_sib_done _ (.inl rfl))⟩
    have herror := replyError_sib_error (s := s) (a := a) q.mcs hne hm
    rw [rejected_of_replyError_some herror] at hgo
    split at hgo
    next himprecise =>
      obtain ⟨hmcs, himprecise⟩ := himprecise
      rw [request_sib hc hr, sibAccess_error hne hm, dataError_deferred hmcs (by rwa [sibSeen_impreciseMode]),
        accepted_of_replyError_some herror]
      rfl
    · cases hgo
  | ok => exact absurd ⟨hm, .inr rfl⟩ hs

/-! ### Where an instruction stops -/

/-- Where the access is done, nothing is said of how the instruction stops. -/
theorem stopsWith_of_goesOn {st mcs : Bool} (o : Host.Outcome State Fault Refusal) (h : s.goesOn st mcs a reply) :
    s.stopsWith st mcs a reply o := by
  obtain ⟨hr, hgo⟩ := h
  refine ⟨fun hreport => ?_, fun t _ ht => ?_⟩
  · rw [hr] at hreport
    cases hreport
  · rw [hgo] at ht
    cases ht

/-- Where nothing is pending, it stops with the interrupt of the reply. -/
theorem stopsWith_precise {st mcs : Bool} {o : Host.Outcome State Fault Refusal} {t : State} (h : s.stopsWith st mcs a reply o)
    (hp : s.pending = []) (ht : s.rejected st mcs a reply = some t) : o = .next t := by
  have hstop := h.2 t (reportsNow_precise hp) ht
  rwa [if_pos hp] at hstop

/-- A request that does not go on is abandoned. -/
theorem request_stops (hc : s.uncompared q.dac a) (hg : ¬ s.goesOn q.st q.mcs a reply) :
    ∃ t, request q a reply s = .taken t ∧ s.stopsWith q.st q.mcs a reply (.next t) := by
  cases hr : s.reportsNow with
  | true =>
    refine ⟨_, request_reportsNow hc hr, fun _ => ?_, fun t hfalse => absurd (hr.symm.trans hfalse) (by simp)⟩
    obtain ⟨e, hmem, f, heq⟩ := reportImprecise_eq s (reportsNow_pending hr)
    exact ⟨e, hmem, f, congrArg _ heq⟩
  | false =>
    cases ht : s.rejected q.st q.mcs a reply with
    | none => exact absurd ⟨hr, ht⟩ hg
    | some t =>
      refine ⟨_, request_rejected hc hr ht, fun hreport => absurd (hr.symm.trans hreport) (by simp), fun u _ hu => ?_⟩
      obtain rfl := Option.some.inj (ht.symm.trans hu)
      split
      next hp => rw [synchronised_precise _ _ ((answered_pending s reply).trans hp)]
      next hp =>
        have hpending : (s.answered reply).pending ≠ [] := by rwa [answered_pending]
        obtain ⟨e, hmem, f, heq⟩ := reportImprecise_eq (s.answered reply) hpending
        rw [synchronised_pending _ _ hpending]
        exact ⟨e, by rwa [answered_pending] at hmem, f, congrArg _ heq⟩

/-- What an instruction whose one access is the request does where the request does not go on. -/
theorem stopsWith_request (hc : s.uncompared q.dac a) (f : Grant → State → State) :
    s.stopsWith q.st q.mcs a reply (.next ((request q a reply s).andThen f)) := by
  by_cases hg : s.goesOn q.st q.mcs a reply
  · exact stopsWith_of_goesOn _ hg
  · obtain ⟨t, heq, hstop⟩ := request_stops hc hg
    rwa [heq]

end

end Sys2Proof.Machine
end

section
/-! PROOFS. Loads and stores (46_load_store.md): each is one request, and what it does once the request is granted. -/

namespace Sys2Proof.Machine

/-! ### What a granted request does -/

/-- The end of a load or store: the general registers and the IAR (46_load_store.md R351). -/
def completed (i : Instr) (ea : Word) (v : Dword) (t : State) : State :=
  { t with gpr := completedGprs i t ea v, iar := t.nia }

/-- What a granted read goes on with: the bytes of memory, or a free value under a masked SIB code (20_memory.md R110, R138). -/
def readGranted (w : Width) (a : Word) (f : Dword → State → State) (g : Grant) (t : State) : State :=
  match g with
  | .masked => f (w.truncate (freeDword t.free)) { t with free := t.free + 1 }
  | .plain => f (readMem w t.mem a) t
  | .deferred => f (readMem w t.mem a) t

/-- What a granted write goes on with: the bytes written, free under a masked SIB code, none where its error is deferred
(20_memory.md R111, R125, R138). -/
def writeGranted (w : Width) (a : Word) (v : Dword) (f : State → State) (g : Grant) (t : State) : State :=
  match g with
  | .plain => f { t with mem := writeMem w t.mem a v }
  | .masked => f { t with mem := writeMem w t.mem a (freeDword t.free), free := t.free + 1 }
  | .deferred => f t

theorem memRead_andThen (w : Width) (a : Word) (s : State) (f : Dword → State → State) :
    (memRead w a s).andThen f = (request .load a (s.sys.dataReply false a w.bytes) s).andThen (readGranted w a f) := by
  unfold memRead
  cases request .load a (s.sys.dataReply false a w.bytes) s with
  | taken t => rfl
  | done g t => cases g <;> rfl

theorem memWrite_andThen (w : Width) (a : Word) (v : Dword) (s : State) (f : State → State) :
    (memWrite w a v s).andThen (fun _ => f) =
      (request .store a (s.sys.dataReply true a w.bytes) s).andThen (writeGranted w a v f) := by
  unfold memWrite
  cases request .store a (s.sys.dataReply true a w.bytes) s with
  | taken t => rfl
  | done g t => cases g <;> rfl

/-! ### Each load and store as a request -/

theorem setReg_advance_eq (t : State) (r : Gpr) (v : Word) : (t.setReg r v).advance = { t with gpr := t.gpr.set r v, iar := t.nia } :=
  advance_eq_nia _

theorem setVdr_advance_eq (t : State) (d : Vdr) (v : Dword) :
    (t.setVdr d v).advance = { t with gpr := t.gpr.setPair d v, iar := t.nia } := by
  rw [advance_eq_nia, ← setVdr_gpr_eq_setPair]
  rfl

theorem loadGpr_eq_set (w : Width) (rt : Gpr) (ea : Word) (s : State) :
    loadGpr w rt ea s = (memRead w ea s).andThen fun v t => { t with gpr := t.gpr.set rt (v.setWidth 32), iar := t.nia } := by
  simp only [loadGpr_eq, setReg_advance_eq, dwordLo_eq_setWidth]

theorem loadGprUpdate_eq_set (w : Width) (rt ra : Gpr) (ea : Word) (s : State) :
    loadGprUpdate w rt ra ea s =
      (memRead w ea s).andThen fun v t => { t with gpr := (t.gpr.set ra ea).set rt (v.setWidth 32), iar := t.nia } := by
  simp only [loadGprUpdate_eq, setReg_advance_eq, dwordLo_eq_setWidth]
  rfl

theorem loadVdr_eq_setPair (dt : Vdr) (ea : Word) (s : State) :
    loadVdr dt ea s = (memRead .dword ea s).andThen fun v t => { t with gpr := t.gpr.setPair dt v, iar := t.nia } := by
  simp only [loadVdr_eq, setVdr_advance_eq]

theorem loadVdrUpdate_eq_setPair (dt : Vdr) (ra : Gpr) (ea : Word) (s : State) :
    loadVdrUpdate dt ra ea s =
      (memRead .dword ea s).andThen fun v t => { t with gpr := (t.gpr.set ra ea).setPair dt v, iar := t.nia } := by
  simp only [loadVdrUpdate_eq, setVdr_advance_eq]
  rfl

theorem storeValue_eq_nia (w : Width) (v : Dword) (ea : Word) (s : State) :
    storeValue w v ea s = (memWrite w ea v s).andThen fun _ t => { t with iar := t.nia } := by
  simp only [storeValue_eq, advance_eq_nia]

theorem storeUpdate_eq_set (w : Width) (v : Dword) (ra : Gpr) (ea : Word) (s : State) :
    storeUpdate w v ra ea s = (memWrite w ea v s).andThen fun _ t => { t with gpr := t.gpr.set ra ea, iar := t.nia } := by
  simp only [storeUpdate_eq, setReg_advance_eq]

theorem next_validForm {ok : Bool} {s t u : State} (h : ok = true) (ht : t = u) :
    (Host.Outcome.next (validForm ok s t) : Host.Outcome State Fault Refusal) = .next u := by
  rw [validForm_valid ok s t h, ht]

/-- A load reads at its EA and completes with the value (46_load_store.md R351). -/
theorem exec_load {i : Instr} {s : State} {n : Nat} {ea : Word} (hreq : memoryRequest i s = some (false, n, ea))
    (hform : i.wellFormed s.cfg.variant = true) :
    ∃ w : Width, w.bytes = n ∧ exec i s = .next ((memRead w ea s).andThen (completed i ea)) := by
  cases i with
  | lbz | lbzx => cases hreq; exact ⟨.byte, rfl, congrArg _ (loadGpr_eq_set _ _ _ s)⟩
  | lhz | lhzx => cases hreq; exact ⟨.half, rfl, congrArg _ (loadGpr_eq_set _ _ _ s)⟩
  | lwz | lwzx => cases hreq; exact ⟨.word, rfl, congrArg _ (loadGpr_eq_set _ _ _ s)⟩
  | lbzu => cases hreq; exact ⟨.byte, rfl, next_validForm hform (loadGprUpdate_eq_set _ _ _ _ s)⟩
  | lhzu => cases hreq; exact ⟨.half, rfl, next_validForm hform (loadGprUpdate_eq_set _ _ _ _ s)⟩
  | lwzu => cases hreq; exact ⟨.word, rfl, next_validForm hform (loadGprUpdate_eq_set _ _ _ _ s)⟩
  | lvd | lvdx => cases hreq; exact ⟨.dword, rfl, congrArg _ (loadVdr_eq_setPair _ _ s)⟩
  | lvdu => cases hreq; exact ⟨.dword, rfl, next_validForm hform (loadVdrUpdate_eq_setPair _ _ _ s)⟩
  | _ => cases hreq

/-- A store writes its value at its EA and completes. -/
theorem exec_store {i : Instr} {s : State} {n : Nat} {ea : Word} (hreq : memoryRequest i s = some (true, n, ea))
    (hform : i.wellFormed s.cfg.variant = true) :
    ∃ w : Width, w.bytes = n ∧
      exec i s = .next ((memWrite w ea (storedValue i s) s).andThen fun _ => completed i ea 0) := by
  cases i with
  | stb | stbx => cases hreq; exact ⟨.byte, rfl, congrArg _ (storeValue_eq_nia _ _ _ s)⟩
  | sth | sthx => cases hreq; exact ⟨.half, rfl, congrArg _ (storeValue_eq_nia _ _ _ s)⟩
  | stw | stwx => cases hreq; exact ⟨.word, rfl, congrArg _ (storeValue_eq_nia _ _ _ s)⟩
  | stvd | stvdx => cases hreq; exact ⟨.dword, rfl, congrArg _ (storeValue_eq_nia _ _ _ s)⟩
  | stbu => cases hreq; exact ⟨.byte, rfl, next_validForm hform (storeUpdate_eq_set _ _ _ _ s)⟩
  | sthu => cases hreq; exact ⟨.half, rfl, next_validForm hform (storeUpdate_eq_set _ _ _ _ s)⟩
  | stwu => cases hreq; exact ⟨.word, rfl, next_validForm hform (storeUpdate_eq_set _ _ _ _ s)⟩
  | stvdu => cases hreq; exact ⟨.dword, rfl, next_validForm hform (storeUpdate_eq_set _ _ _ _ s)⟩
  | _ => cases hreq

/-- The class of a load or store: the same for each of its uses (60_exceptions.md R527). -/
def Request.ofStore (store : Bool) : Request := ⟨store, store, store⟩

/-- What a granted load or store does. -/
def accessGranted (store : Bool) (w : Width) (i : Instr) (ea : Word) (v : Dword) (g : Grant) (t : State) : State :=
  if store then writeGranted w ea v (completed i ea 0) g t else readGranted w ea (completed i ea) g t

/-- Every load and store is one request and what it does once it is granted. -/
theorem exec_memoryRequest {i : Instr} {s : State} {store : Bool} {n : Nat} {ea : Word}
    (hreq : memoryRequest i s = some (store, n, ea)) (hform : i.wellFormed s.cfg.variant = true) :
    ∃ w : Width, w.bytes = n ∧
      exec i s = .next ((request (.ofStore store) ea (s.sys.dataReply store ea n) s).andThen
        (accessGranted store w i ea (storedValue i s))) := by
  cases store with
  | false =>
    obtain ⟨w, rfl, hexec⟩ := exec_load hreq hform
    exact ⟨w, rfl, hexec.trans (congrArg _ (memRead_andThen w ea s _))⟩
  | true =>
    obtain ⟨w, rfl, hexec⟩ := exec_store hreq hform
    exact ⟨w, rfl, hexec.trans (congrArg _ (memWrite_andThen w ea _ s _))⟩

/-! ### Values and registers -/

theorem readMem_eq_ofNat (w : Width) (m : List Host.Cell) (a : Word) : readMem w m a = BitVec.ofNat 64 (bigEndian m a w.bytes) := by
  rw [← readMem_toNat, BitVec.ofNat_toNat, BitVec.setWidth_eq]

theorem truncate_lt (w : Width) (v : Dword) : (w.truncate v).toNat < 256 ^ w.bytes := by
  have hnarrow {n : Nat} (hn : n ≤ 64) : ((v.setWidth n).setWidth 64).toNat < 2 ^ n := by
    rw [BitVec.toNat_setWidth_of_le hn]
    exact (v.setWidth n).isLt
  cases w with
  | byte => exact hnarrow (n := 8) (by decide)
  | half => exact hnarrow (n := 16) (by decide)
  | word => exact hnarrow (n := 32) (by decide)
  | dword => exact v.isLt

theorem completedGprs_congr {s t : State} (i : Instr) (ea : Word) (v : Dword) (h : t.gpr = s.gpr) :
    completedGprs i t ea v = completedGprs i s ea v := by
  unfold completedGprs
  rw [h]

/-- A store completes with the same registers whatever it stored. -/
theorem completed_eq {s t : State} (i : Instr) (ea : Word) (v : Dword) (hg : t.gpr = s.gpr) (hx : t.xsr = s.xsr) (hi : t.iar = s.iar) :
    completed i ea v t = { t with gpr := completedGprs i s ea v, iar := s.nia } := by
  rw [completed, completedGprs_congr i ea v hg, State.nia, hx, hi]
  rfl

/-- The same of the state in which an access is done. -/
theorem completed_accepted {s : State} (i : Instr) (mcs : Bool) (a ea : Word) (v : Dword) (reply : DataReply) (m : List Host.Cell)
    (f : Nat) :
    completed i ea v { s.accepted mcs a reply with mem := m, free := f } =
      { s.accepted mcs a reply with mem := m, free := f, gpr := completedGprs i s ea v, iar := s.nia } := by
  rw [accepted_eq]
  exact completed_eq i ea v rfl rfl rfl

theorem accepted_mem (s : State) (mcs : Bool) (a : Word) (reply : DataReply) : (s.accepted mcs a reply).mem = s.mem := by
  rw [accepted_eq]

theorem accepted_free (s : State) (mcs : Bool) (a : Word) (reply : DataReply) : (s.accepted mcs a reply).free = s.free := by
  rw [accepted_eq]

/-! ### Done loads and stores -/

section
variable {i : Instr} {s : State} {store : Bool} {n : Nat} {ea : Word} {reply : DataReply}

theorem exec_load_succeeds (hreq : memoryRequest i s = some (false, n, ea)) (hform : i.wellFormed s.cfg.variant = true)
    (hc : s.uncompared false ea) (hreply : s.sys.dataReply false ea n = reply) (hg : s.goesOn false false ea reply)
    (hs : s.succeeds false ea reply) :
    exec i s = .next { s.accepted false ea reply with
      gpr := completedGprs i s ea (BitVec.ofNat 64 (bigEndian s.mem ea n)), iar := s.nia } := by
  obtain ⟨w, rfl, hexec⟩ := exec_memoryRequest hreq hform
  rw [hexec, hreply, request_succeeds (q := .ofStore false) hc hg hs, andThen_done, ← readMem_eq_ofNat, ← accepted_mem s false ea reply]
  exact congrArg _ (completed_accepted i false ea ea _ reply _ _)

theorem exec_store_succeeds (hreq : memoryRequest i s = some (true, n, ea)) (hform : i.wellFormed s.cfg.variant = true)
    (hwf : Memory.wf s.mem = true) (hc : s.uncompared true ea) (hreply : s.sys.dataReply true ea n = reply)
    (hg : s.goesOn true true ea reply) (hs : s.succeeds true ea reply) :
    ∃ m : List Host.Cell,
      exec i s = .next { s.accepted true ea reply with mem := m, gpr := completedGprs i s ea 0, iar := s.nia } ∧
        storedAt s.mem m ea n (storedValue i s) := by
  obtain ⟨w, rfl, hexec⟩ := exec_memoryRequest hreq hform
  refine ⟨_, ?_, writeMem_storedAt w s.mem ea _ hwf⟩
  rw [hexec, hreply, request_succeeds (q := .ofStore true) hc hg hs, andThen_done, ← accepted_mem s true ea reply]
  exact congrArg _ (completed_accepted i true ea ea 0 reply _ _)

theorem exec_store_deferred (hreq : memoryRequest i s = some (true, n, ea)) (hform : i.wellFormed s.cfg.variant = true)
    (hc : s.uncompared true ea) (hreply : s.sys.dataReply true ea n = reply) (hg : s.goesOn true true ea reply)
    (hm : s.masks reply = false) (hs : ¬ s.succeeds true ea reply) :
    exec i s = .next { s.accepted true ea reply with gpr := completedGprs i s ea 0, iar := s.nia } := by
  obtain ⟨w, rfl, hexec⟩ := exec_memoryRequest hreq hform
  rw [hexec, hreply, request_deferred (q := .ofStore true) hc hg hm hs, andThen_done]
  exact congrArg _ (completed_accepted i true ea ea 0 reply _ _)

theorem exec_load_masked (hreq : memoryRequest i s = some (false, n, ea)) (hform : i.wellFormed s.cfg.variant = true)
    (hc : s.uncompared false ea) (hreply : s.sys.dataReply false ea n = reply) (hr : s.reportsNow = false)
    (hm : s.masks reply = true) :
    ∃ v : Dword, v.toNat < 256 ^ n ∧
      exec i s = .next { s.accepted false ea reply with
        free := s.free + 1, gpr := completedGprs i s ea v, iar := s.nia } := by
  obtain ⟨w, rfl, hexec⟩ := exec_memoryRequest hreq hform
  refine ⟨_, truncate_lt w (freeDword (s.accepted false ea reply).free), ?_⟩
  rw [hexec, hreply, request_masked (q := .ofStore false) hc hr hm, andThen_done, ← accepted_free s false ea reply]
  exact congrArg _ (completed_accepted i false ea ea _ reply _ _)

theorem exec_store_masked (hreq : memoryRequest i s = some (true, n, ea)) (hform : i.wellFormed s.cfg.variant = true)
    (hwf : Memory.wf s.mem = true) (hc : s.uncompared true ea) (hreply : s.sys.dataReply true ea n = reply)
    (hr : s.reportsNow = false) (hm : s.masks reply = true) :
    ∃ (m : List Host.Cell) (v : Dword),
      exec i s = .next { s.accepted true ea reply with
        mem := m, free := s.free + 1, gpr := completedGprs i s ea 0, iar := s.nia } ∧ storedAt s.mem m ea n v := by
  obtain ⟨w, rfl, hexec⟩ := exec_memoryRequest hreq hform
  refine ⟨_, freeDword (s.accepted true ea reply).free, ?_, writeMem_storedAt w s.mem ea _ hwf⟩
  rw [hexec, hreply, request_masked (q := .ofStore true) hc hr hm, andThen_done, ← accepted_free s true ea reply,
    ← accepted_mem s true ea reply]
  exact congrArg _ (completed_accepted i true ea ea 0 reply _ _)

/-- A load or store whose access is not done. -/
theorem exec_stopsWith (hreq : memoryRequest i s = some (store, n, ea)) (hform : i.wellFormed s.cfg.variant = true)
    (hc : s.uncompared store ea) (hreply : s.sys.dataReply store ea n = reply) : s.stopsWith store store ea reply (exec i s) := by
  obtain ⟨w, -, hexec⟩ := exec_memoryRequest hreq hform
  rw [hexec, hreply]
  exact stopsWith_request (q := .ofStore store) hc _

end

/-! ### Granted loads and stores -/

theorem goesOn_ok {s : State} {a : Word} (st mcs : Bool) (hr : s.reportsNow = false) : s.goesOn st mcs a .ok := ⟨hr, rfl⟩

theorem succeeds_ok (s : State) (mcs : Bool) (a : Word) : s.succeeds mcs a .ok := ⟨rfl, .inr rfl⟩

theorem exec_load_granted {i : Instr} {s : State} {n : Nat} {ea : Word} (hreq : memoryRequest i s = some (false, n, ea))
    (hform : i.wellFormed s.cfg.variant = true) (hgrant : s.grants false ea n) :
    exec i s = .next { s with gpr := completedGprs i s ea (BitVec.ofNat 64 (bigEndian s.mem ea n)), iar := s.nia } := by
  obtain ⟨hreply, hc, hr⟩ := hgrant
  exact exec_load_succeeds hreq hform hc hreply (goesOn_ok _ _ hr) (succeeds_ok s _ _)

theorem exec_store_granted {i : Instr} {s : State} {n : Nat} {ea : Word} (hreq : memoryRequest i s = some (true, n, ea))
    (hform : i.wellFormed s.cfg.variant = true) (hwf : Memory.wf s.mem = true) (hgrant : s.grants true ea n) :
    ∃ m : List Host.Cell, exec i s = .next { s with mem := m, gpr := completedGprs i s ea 0, iar := s.nia } ∧
      storedAt s.mem m ea n (storedValue i s) := by
  obtain ⟨hreply, hc, hr⟩ := hgrant
  exact exec_store_succeeds hreq hform hwf hc hreply (goesOn_ok _ _ hr) (succeeds_ok s _ _)

theorem setWidth_ofNat_dword (n : Nat) : (BitVec.ofNat 64 n).setWidth 32 = BitVec.ofNat 32 n :=
  BitVec.setWidth_ofNat_of_le (by decide) n

/-- Settles O23. -/
theorem loadResults : Obligations.LoadResults := by
  intro s rt ra rb dt d gpr vdr
  have hgpr {i : Instr} {n : Nat} {ea : Word} (hreq : memoryRequest i s = some (false, n, ea))
      (hform : i.wellFormed s.cfg.variant = true) (hset : ∀ v, completedGprs i s ea v = s.gpr.set rt (v.setWidth 32))
      (hgrant : s.grants false ea n) : exec i s = .next (gpr ea n) := by
    rw [exec_load_granted hreq hform hgrant, hset, setWidth_ofNat_dword]
  exact ⟨hgpr rfl rfl fun _ => rfl, hgpr rfl rfl fun _ => rfl, hgpr rfl rfl fun _ => rfl, hgpr rfl rfl fun _ => rfl,
    hgpr rfl rfl fun _ => rfl, hgpr rfl rfl fun _ => rfl, exec_load_granted rfl rfl, exec_load_granted rfl rfl⟩

/-- Settles O24. -/
theorem loadUpdateResults : Obligations.LoadUpdateResults := by
  intro s rt ra dt d hra ea gpr
  have hgpr {i : Instr} {n : Nat} (hreq : memoryRequest i s = some (false, n, ea)) (hform : ra ≠ rt → i.wellFormed s.cfg.variant = true)
      (hset : ∀ v, completedGprs i s ea v = (s.gpr.set ra ea).set rt (v.setWidth 32)) (hne : ra ≠ rt)
      (hgrant : s.grants false ea n) : exec i s = .next (gpr n) := by
    rw [exec_load_granted hreq (hform hne) hgrant, hset, setWidth_ofNat_dword]
  have hform (hne : ra ≠ rt) : validLoadUpdate rt ra = true := by simp [validLoadUpdate, hra, hne]
  refine ⟨hgpr (i := .lbzu rt ra d) rfl hform fun _ => rfl, hgpr (i := .lhzu rt ra d) rfl hform fun _ => rfl,
    hgpr (i := .lwzu rt ra d) rfl hform fun _ => rfl, fun hhigh hlow hgrant => ?_⟩
  exact exec_load_granted (i := .lvdu dt ra d) rfl (by simp [Instr.wellFormed, hra, hhigh, hlow]) hgrant

/-- Settles O25. -/
theorem storeResults : Obligations.StoreResults := by
  intro s rs ra rb ds d hwf stores v
  exact ⟨exec_store_granted rfl rfl hwf, exec_store_granted rfl rfl hwf, exec_store_granted rfl rfl hwf,
    exec_store_granted rfl rfl hwf, exec_store_granted rfl rfl hwf, exec_store_granted rfl rfl hwf,
    exec_store_granted rfl rfl hwf, exec_store_granted rfl rfl hwf⟩

/-- Settles O26. -/
theorem storeUpdateResults : Obligations.StoreUpdateResults := by
  intro s rs ra ds d hwf hra ea stores v
  have hform : decide (ra ≠ .r0) = true := decide_eq_true hra
  exact ⟨exec_store_granted (i := .stbu rs ra d) rfl hform hwf, exec_store_granted (i := .sthu rs ra d) rfl hform hwf,
    exec_store_granted (i := .stwu rs ra d) rfl hform hwf, exec_store_granted (i := .stvdu ds ra d) rfl hform hwf⟩

/-! ### Loads and stores that are not granted -/

/-- Settles O27: with nothing pending each ends in the interrupt that its reply is. -/
theorem rejectedAccessTakesInterrupt : Obligations.RejectedAccessTakesInterrupt := by
  intro s i store n ea hreq hform hp hc
  have hstop {reply : DataReply} {t : State} (hreply : s.sys.dataReply store ea n = reply)
      (ht : s.rejected store store ea reply = some t) : exec i s = .next t :=
    stopsWith_precise (exec_stopsWith hreq hform hc hreply) hp ht
  refine ⟨fun h => hstop h rfl, fun h => hstop h rfl, fun h hprecise => hstop h ?_, fun line h hprecise => hstop h ?_⟩
  · rw [rejected_of_replyError_some (store := store) (e := ea) rfl, if_neg]
    · rfl
    · rintro ⟨rfl, himprecise⟩
      rw [himprecise] at hprecise
      simp at hprecise
  · rw [rejected_of_replyError_some (store := true) (e := line) rfl, if_neg (by simp [hprecise])]
    rfl

/-- Settles O29: by the code, whether MSR[SEM] masks it, and whether its error is reported later. -/
theorem sibReturnCodes : Obligations.SibReturnCodes := by
  intro s i store n ea c hreq hform hwf hp hc hreply done
  have hr := reportsNow_precise hp
  have hmasks (hne : c ≠ 0) (hbit : bitAt s.msr c.toNat = true) : s.masks (.sib c) = true := by
    rw [State.masks, decide_eq_true hne, hbit]
    rfl
  have hunmasked (hbit : bitAt s.msr c.toNat = false) : s.masks (.sib c) = false := by rw [State.masks, hbit, Bool.and_false]
  have haccepted (h : c = 0 ∨ s.masks (.sib c) = true) : s.accepted store ea (.sib c) = s.sibSeen c :=
    accepted_of_replyError_none (replyError_sib_done _ h)
  have hsuccess (hzero : c = 0) : s.goesOn store store ea (.sib c) ∧ s.succeeds store ea (.sib c) := by
    have hnone := replyError_sib_done (s := s) (a := ea) store (.inl hzero)
    refine ⟨⟨hr, rejected_of_replyError_none hnone (by simp) (by simp)⟩, ?_, .inr hnone⟩
    rw [State.masks, decide_eq_false (not_not.2 hzero), Bool.false_and]
  refine ⟨fun hzero hload => ?_, fun hzero hstore => ?_, fun hne hbit hload => ?_, fun hne hbit hstore => ?_,
    fun hne hbit hprecise => ?_, fun hne hbit hstore himprecise => ?_⟩
  · subst hload
    obtain ⟨hgo, hdone⟩ := hsuccess hzero
    rw [exec_load_succeeds hreq hform hc hreply hgo hdone, haccepted (.inl hzero)]
  · subst hstore
    obtain ⟨hgo, hdone⟩ := hsuccess hzero
    obtain ⟨m, hexec, hstored⟩ := exec_store_succeeds hreq hform hwf hc hreply hgo hdone
    exact ⟨m, by rw [hexec, haccepted (.inl hzero)], hstored⟩
  · subst hload
    obtain ⟨v, hv, hexec⟩ := exec_load_masked hreq hform hc hreply hr (hmasks hne hbit)
    exact ⟨v, hv, by rw [hexec, haccepted (.inr (hmasks hne hbit))]⟩
  · subst hstore
    obtain ⟨m, v, hexec, hstored⟩ := exec_store_masked hreq hform hwf hc hreply hr (hmasks hne hbit)
    exact ⟨m, v, by rw [hexec, haccepted (.inr (hmasks hne hbit))], hstored⟩
  · refine stopsWith_precise (exec_stopsWith hreq hform hc hreply) hp ?_
    rw [rejected_of_replyError_some (replyError_sib_error store hne (hunmasked hbit)), if_neg]
    · rfl
    · rintro ⟨rfl, himprecise⟩
      rw [himprecise] at hprecise
      simp at hprecise
  · subst hstore
    have herror := replyError_sib_error (s := s) (a := ea) true hne (hunmasked hbit)
    have hgo : s.goesOn true true ea (.sib c) := ⟨hr, by rw [rejected_of_replyError_some herror, if_pos ⟨rfl, himprecise⟩]⟩
    have hfails : ¬ s.succeeds true ea (.sib c) := by
      rintro ⟨-, ⟨line, hline⟩ | hnone⟩
      · cases hline
      · rw [herror] at hnone
        cases hnone
    rw [exec_store_deferred hreq hform hc hreply hgo (hunmasked hbit) hfails, accepted_of_replyError_some herror, hp]
    rfl

/-- A load-type access has no error of its own that is reported later: it goes on only where it succeeds, or is masked. -/
theorem succeeds_of_goesOn_load {s : State} {st : Bool} {a : Word} {reply : DataReply} (hg : s.goesOn st false a reply)
    (hm : s.masks reply = false) : s.succeeds false a reply := by
  obtain ⟨-, hgo⟩ := hg
  refine ⟨hm, ?_⟩
  have hrejected (herror : s.replyError false a reply = some (false, a)) : False := by
    rw [rejected_of_replyError_some herror, if_neg (by simp)] at hgo
    cases hgo
  cases reply with
  | dsi => exact .inr rfl
  | align => exact .inr rfl
  | error => exact (hrejected rfl).elim
  | writeBack line => exact .inl ⟨line, rfl⟩
  | sib c =>
    by_cases hzero : c = 0
    · exact .inr (replyError_sib_done _ (.inl hzero))
    · exact (hrejected (replyError_sib_error _ hzero hm)).elim
  | ok => exact .inr rfl

/-- Settles O30. -/
theorem impreciseStoreErrors : Obligations.ImpreciseStoreErrors := by
  intro s i store n ea hreq hform hwf hc reply done
  refine ⟨reportsNow_iff s, exec_stopsWith hreq hform hc rfl, fun hgo hm => ⟨fun hload => ?_, fun hstore hs => ?_, fun hstore hs => ?_⟩⟩
  · subst hload
    exact exec_load_succeeds hreq hform hc rfl hgo (succeeds_of_goesOn_load hgo hm)
  · subst hstore
    exact exec_store_succeeds hreq hform hwf hc rfl hgo hs
  · subst hstore
    exact exec_store_deferred hreq hform hc rfl hgo hm hs

end Sys2Proof.Machine
end

section
/-! PROOFS. The cache instructions (48_cache_sync.md), each one request too, and the data compares of all of them
(62_debug_xir.md R632 to R635). -/

namespace Sys2Proof.Machine

/-! ### Each cache instruction as a request -/

/-- A request that goes on is done, whatever it is granted. -/
theorem request_goesOn {q : Request} {a : Word} {reply : DataReply} {s : State} (hc : s.uncompared q.dac a)
    (hg : s.goesOn q.st q.mcs a reply) : ∃ g, request q a reply s = .done g (s.accepted q.mcs a reply) := by
  by_cases hs : s.succeeds q.mcs a reply
  · exact ⟨_, request_succeeds hc hg hs⟩
  · cases hm : s.masks reply with
    | true => exact ⟨_, request_masked hc hg.1 hm⟩
    | false => exact ⟨_, request_deferred hc hg hm hs⟩

/-- What `dcbz` does once it is granted (48_cache_sync.md R425; 20_memory.md R125, R138). -/
def zeroGranted (c : Config) (ea : Word) (g : Grant) (t : State) : State :=
  match g with
  | .plain => { t with mem := zeroBytes t.mem (blockBase c ea) c.blockBytes }.advance
  | .masked =>
    { t with
      mem := fillBytes (fun i => (freeDword (t.free + i)).setWidth 8) t.mem (blockBase c ea) c.blockBytes
      free := t.free + c.blockBytes }.advance
  | .deferred => t.advance

/-- What `dcbq` does once it is granted: RT takes the word of the query, or a free one under a masked SIB code
(48_cache_sync.md R423). -/
def queryGranted (rt : Gpr) (word : Word) (g : Grant) (t : State) : State :=
  match g with
  | .masked => ({ t with free := t.free + 1 }.setReg rt (dwordLo (freeDword t.free))).advance
  | .plain => (t.setReg rt word).advance
  | .deferred => (t.setReg rt word).advance

theorem exec_dcbz_eq (ra rb : Gpr) (s : State) :
    exec (.dcbz ra rb) s =
      .next ((request .store (eaX s ra rb) (dcbzReply (eaX s ra rb) s) s).andThen (zeroGranted s.cfg (eaX s ra rb))) := by
  change Host.Outcome.next _ = _
  cases request .store (eaX s ra rb) (dcbzReply (eaX s ra rb) s) s with
  | taken t => rfl
  | done g t => cases g <;> rfl

theorem exec_dcbq_eq (rt ra rb : Gpr) (s : State) :
    exec (.dcbq rt ra rb) s =
      .next ((request .load (eaX s ra rb) (queryReply (eaX s ra rb) s) s).andThen (queryGranted rt (queryWord (eaX s ra rb) s))) := by
  change Host.Outcome.next _ = _
  cases request .load (eaX s ra rb) (queryReply (eaX s ra rb) s) s with
  | taken t => rfl
  | done g t => cases g <;> rfl

/-! ### Replies -/

theorem cacheReply_eq (store : Bool) (own : CacheReplies → DataReply) (ea : Word) (s : State) (hown : own {} = .ok) :
    cacheReply store own ea s =
      if s.sys.dataReply store ea 1 = .dsi then .dsi
      else if s.cfg.hasDcache then own (match s.sys.regionAt ea with | some r => r.cacheOps | none => {}) else .ok := by
  cases hcache : s.cfg.hasDcache with
  | false => exact cacheReply_without_cache store own ea s hcache
  | true =>
    cases hregion : s.sys.regionAt ea with
    | some r => exact cacheReply_with_cache store own ea s r hcache hregion
    | none =>
      simp only [cacheReply, orCached, hcache, hregion, storageOnly_eq, hown, permission]
      split <;> rfl

/-- Outside every region a byte has no permission (20_memory.md R113; 92_eei_decisions.md D1). -/
theorem dataReply_byte_outside {m : MemSys} {a : Word} (store : Bool) (h : m.regionAt a = none) : m.dataReply store a 1 = .dsi := by
  have hbyte : m.byteReply store (decide (a.toNat % 1 ≠ 0)) 1 (a + BitVec.ofNat 32 0) = .dsi := by
    rw [MemSys.byteReply, BitVec.add_zero, h]
  change DataReply.worse .ok (m.byteReply store (decide (a.toNat % 1 ≠ 0)) 1 (a + BitVec.ofNat 32 0)) = .dsi
  rw [hbyte]
  rfl

theorem worse_ok (r : DataReply) : r.worse .ok = r := if_neg (Nat.not_lt_zero _)

theorem worse_align (r : DataReply) : r.worse .align = if r = .dsi then r else .align := by
  cases r with
  | sib c =>
    simp only [DataReply.worse, DataReply.rank, reduceCtorEq, if_false]
    split <;> rfl
  | _ => rfl

theorem dsi_worse (r : DataReply) : DataReply.worse .dsi r = .dsi := by
  refine if_neg (Nat.not_lt.2 ?_)
  cases r with
  | sib c =>
    simp only [DataReply.rank]
    split <;> decide
  | _ => simp [DataReply.rank]

theorem dcbzReply_inside {ea : Word} {s : State} {r : Region} (h : s.sys.regionAt ea = some r) :
    dcbzReply ea s =
      let store := s.sys.dataReply true ea 1
      let answer := if s.cfg.hasDcache then store.worse r.cacheOps.zero else store
      if (r.dcbz || (s.cfg.hasDcache && r.cacheable)) = true ∨ answer = .dsi then answer else .align := by
  have hzeroes : r.zeroes s.cfg = (r.dcbz || (s.cfg.hasDcache && r.cacheable)) := rfl
  simp only [dcbzReply, orCached, permission, h, ← hzeroes]
  generalize (if s.cfg.hasDcache = true then _ else _) = answer
  cases r.zeroes s.cfg with
  | true => simp only [if_true, true_or, worse_ok]
  | false => simp only [Bool.false_eq_true, if_false, false_or, worse_align]

theorem dcbzReply_outside {ea : Word} {s : State} (h : s.sys.regionAt ea = none) : dcbzReply ea s = .dsi := by
  simp only [dcbzReply, orCached, permission, h, dataReply_byte_outside true h, dsi_worse, ite_self]

/-! ### `dcbf`, `dcbi`, `dcbt`, `dcbq`, `sync` -/

theorem advance_accepted (s : State) (mcs : Bool) (a : Word) (reply : DataReply) :
    (s.accepted mcs a reply).advance = { s.accepted mcs a reply with iar := s.nia } := by
  rw [advance_eq_nia, accepted_eq]
  rfl

/-- A cache operation of a class, that of the compare apart: it stops, or only advances. -/
theorem cacheOp_ends {i : Instr} {dac st : Bool} {reply : DataReply} {ea : Word} {s : State}
    (hexec : exec i s = .next (cacheOp ⟨dac, st, st⟩ reply ea s)) (hc : s.uncompared dac ea) :
    s.stopsWith st st ea reply (exec i s) ∧
      (s.goesOn st st ea reply → exec i s = .next { s.accepted st ea reply with iar := s.nia }) := by
  rw [hexec, cacheOp_eq]
  refine ⟨stopsWith_request (q := ⟨dac, st, st⟩) hc _, fun hg => ?_⟩
  obtain ⟨g, heq⟩ := request_goesOn (q := ⟨dac, st, st⟩) hc hg
  rw [heq, andThen_done, advance_accepted]

/-- `dcbf` is store-type in the compare unless it is a load everywhere, and in its interrupts where it is a store everywhere
(90_conflicts.md C2). -/
theorem dcbfRequest_eq (c : DcbfClass) : dcbfRequest c = ⟨decide (c ≠ .load), decide (c = .store), decide (c = .store)⟩ := by
  cases c <;> rfl

theorem queryGranted_eq {s t : State} (rt : Gpr) (word : Word) (g : Grant) (hg : g ≠ .masked)
    (ht : t = { s with msr := t.msr, pending := t.pending }) :
    queryGranted rt word g t = { t with gpr := s.gpr.set rt word, iar := s.nia } := by
  have hdone : (t.setReg rt word).advance = { t with gpr := s.gpr.set rt word, iar := s.nia } := by
    rw [setReg_advance_eq, ht]
    rfl
  cases g with
  | masked => exact absurd rfl hg
  | plain => exact hdone
  | deferred => exact hdone

theorem queryGranted_masked {s t : State} (rt : Gpr) (word : Word) (ht : t = { s with msr := t.msr, pending := t.pending }) :
    queryGranted rt word .masked t =
      { t with gpr := s.gpr.set rt (dwordLo (freeDword s.free)), free := s.free + 1, iar := s.nia } := by
  rw [queryGranted, setReg_advance_eq, ht]
  rfl

theorem exec_dcbq_done {rt ra rb : Gpr} {s : State} {reply : DataReply} (hc : s.uncompared false (eaX s ra rb))
    (hreply : queryReply (eaX s ra rb) s = reply) (hg : s.goesOn false false (eaX s ra rb) reply) (hm : s.masks reply = false) :
    exec (.dcbq rt ra rb) s =
      .next { s.accepted false (eaX s ra rb) reply with gpr := s.gpr.set rt (queryWord (eaX s ra rb) s), iar := s.nia } := by
  rw [exec_dcbq_eq, hreply, request_succeeds (q := .load) hc hg (succeeds_of_goesOn_load hg hm), andThen_done]
  exact congrArg _ (queryGranted_eq rt _ .plain (by simp) (accepted_eq s false _ reply))

theorem exec_dcbq_masked {rt ra rb : Gpr} {s : State} {reply : DataReply} (hc : s.uncompared false (eaX s ra rb))
    (hreply : queryReply (eaX s ra rb) s = reply) (hr : s.reportsNow = false) (hm : s.masks reply = true) :
    ∃ v : Word, exec (.dcbq rt ra rb) s =
      .next { s.accepted false (eaX s ra rb) reply with gpr := s.gpr.set rt v, free := s.free + 1, iar := s.nia } := by
  refine ⟨dwordLo (freeDword s.free), ?_⟩
  rw [exec_dcbq_eq, hreply, request_masked (q := .load) hc hr hm, andThen_done]
  exact congrArg _ (queryGranted_masked rt _ (accepted_eq s false _ reply))

theorem exec_dcbq_stopsWith {rt ra rb : Gpr} {s : State} {reply : DataReply} (hc : s.uncompared false (eaX s ra rb))
    (hreply : queryReply (eaX s ra rb) s = reply) :
    s.stopsWith false false (eaX s ra rb) reply (exec (.dcbq rt ra rb) s) := by
  rw [exec_dcbq_eq, hreply]
  exact stopsWith_request (q := .load) hc _

/-- Settles O38. -/
theorem cacheOperationsResults : Obligations.CacheOperationsResults := by
  intro s rt ra rb ea own reply clear ends flushIsStore
  have hreply (store : Bool) (f : CacheReplies → DataReply) (hf : f {} = .ok) : cacheReply store f ea s = reply store (f own) :=
    cacheReply_eq store f ea s hf
  refine ⟨cacheOp_ends ?_, cacheOp_ends ?_, cacheOp_ends ?_, fun hc hcache => ⟨?_, fun hr => ?_⟩,
    fun hc hcache => ⟨fun hnone => ?_, fun q hq => ?_⟩, fun hp => ?_⟩
  · rw [← hreply false CacheReplies.flush rfl, ← dcbfRequest_eq]
    rfl
  · rw [← hreply true CacheReplies.invalidate rfl]
    rfl
  · rw [← hreply false CacheReplies.touch rfl]
    rfl
  · exact exec_dcbq_stopsWith hc (by simp [queryReply, hcache])
  · refine ⟨_, ?_, exec_dcbq_done hc (by simp [queryReply, hcache]) (goesOn_ok _ _ hr) rfl⟩
    rw [queryWord, if_neg (by simp [hcache])]
    exact bitAt_place_disjoint _ _ _ (by omega) (by omega) (by omega)
  · have hquery : s.sys.queryAt ea = none := by
      refine List.find?_eq_none.2 fun q hq => ?_
      simp [hnone q hq]
    have hreply : queryReply ea s = .dsi := by simp [queryReply, hcache, hquery]
    exact exec_dcbq_stopsWith hc hreply
  · have hquery : s.sys.queryAt ea = some q := hq
    have hreply : queryReply ea s = q.reply := by simp [queryReply, hcache, hquery]
    have hword : queryWord ea s = q.word := by simp [queryWord, hcache, hquery]
    refine ⟨exec_dcbq_stopsWith hc hreply, fun hg hm => ?_, fun hg hm => exec_dcbq_masked hc hreply hg.1 hm⟩
    rw [exec_dcbq_done hc hreply hg hm, hword]
  · exact congrArg Host.Outcome.next ((synchronised_precise s _ hp).trans (advance_eq_nia s))

/-! ### `dcbz` -/

/-- Bytes outside those that are filled read as before. -/
theorem readByte_fillBytes_outside (f : Nat → Byte) (m : List Host.Cell) (a b : Word) (n : Nat) (hb : ¬ (b - a).toNat < n) :
    readByte (fillBytes f m a n) b = readByte m b := by
  induction n with
  | zero => rfl
  | succ n ih =>
    have hne : b ≠ a + BitVec.ofNat 32 n := by
      rintro rfl
      rw [BitVec.add_comm, BitVec.add_sub_cancel, BitVec.toNat_ofNat] at hb
      exact hb (Nat.lt_succ_of_le (Nat.mod_le _ _))
    rw [fillBytes, readByte_writeByte_other _ _ _ _ hne]
    exact ih (by omega)

theorem zeroBytes_eq_fillBytes (m : List Host.Cell) (a : Word) (n : Nat) : zeroBytes m a n = fillBytes (fun _ => 0) m a n := by
  induction n with
  | zero => rfl
  | succ n ih => rw [zeroBytes, fillBytes, ih]

/-- Any number of bytes set to 0, also all of memory and more. -/
theorem readByte_zeroBytes (m : List Host.Cell) (a b : Word) (n : Nat) (hm : Memory.wf m = true) :
    readByte (zeroBytes m a n) b = if (b - a).toNat < n then 0 else readByte m b := by
  split
  next hlt =>
    induction n with
    | zero => exact absurd hlt (Nat.not_lt_zero _)
    | succ n ih =>
      rw [zeroBytes, readByte_writeByte _ _ _ _ (zeroBytes_wf m a n hm)]
      split
      · rfl
      next hne =>
        refine ih (lt_of_le_of_ne (Nat.le_of_lt_succ hlt) fun heq => hne ?_)
        rw [← heq, BitVec.ofNat_toNat, BitVec.setWidth_eq, BitVec.add_comm, BitVec.sub_add_cancel]
  next hnot => rw [zeroBytes_eq_fillBytes, readByte_fillBytes_outside _ _ _ _ _ hnot]

theorem blockBytes_pos (c : Config) : 0 < c.blockBytes := Nat.mul_pos (by decide) (Nat.two_pow_pos _)

/-- A block within the address space divides it. -/
theorem blockBytes_dvd (c : Config) (h : c.blockBytes ≤ 2 ^ 32) : c.blockBytes ∣ 2 ^ 32 := by
  have hpow : c.blockBytes = 2 ^ (3 + c.blockShift) := (Nat.pow_add 2 3 c.blockShift).symm
  rw [hpow] at h ⊢
  exact pow_dvd_pow 2 ((Nat.pow_le_pow_iff_right (by decide)).1 h)

theorem blockBase_toNat (c : Config) (ea : Word) : (blockBase c ea).toNat = ea.toNat / c.blockBytes * c.blockBytes := by
  rw [blockBase, BitVec.toNat_ofNat, Nat.mod_eq_of_lt ((Nat.div_mul_le_self _ _).trans_lt ea.isLt)]

/-- The bytes of a block are those with its number (20_memory.md R117). -/
theorem sub_blockBase_lt_iff (c : Config) (ea b : Word) :
    (b - blockBase c ea).toNat < c.blockBytes ↔ b.toNat / c.blockBytes = ea.toNat / c.blockBytes := by
  have hpos := blockBytes_pos c
  have hb := b.isLt
  have hbase := blockBase_toNat c ea
  by_cases hsize : c.blockBytes ≤ 2 ^ 32
  · have hend : (blockBase c ea).toNat + c.blockBytes ≤ 2 ^ 32 := by
      obtain ⟨k, hk⟩ := blockBytes_dvd c hsize
      have hlt : ea.toNat / c.blockBytes < k := Nat.div_lt_of_lt_mul (hk ▸ ea.isLt)
      rw [hbase, hk, ← Nat.succ_mul, Nat.mul_comm]
      exact Nat.mul_le_mul_left _ hlt
    rw [BitVec.toNat_sub, Nat.div_eq_iff hpos, ← hbase]
    have hbelow : ea.toNat / c.blockBytes * c.blockBytes = (blockBase c ea).toNat := hbase.symm
    by_cases hle : (blockBase c ea).toNat ≤ b.toNat
    · rw [show 2 ^ 32 - (blockBase c ea).toNat + b.toNat = (b.toNat - (blockBase c ea).toNat) + 2 ^ 32 by omega, Nat.add_mod_right,
        Nat.mod_eq_of_lt (by omega)]
      omega
    · rw [Nat.mod_eq_of_lt (by omega)]
      omega
  · have hlt (x : Word) : x.toNat < c.blockBytes := x.isLt.trans (not_le.1 hsize)
    simp only [hlt, Nat.div_eq_of_lt]

theorem readByte_zeroBlock (c : Config) (m : List Host.Cell) (ea b : Word) (hm : Memory.wf m = true) :
    readByte (zeroBytes m (blockBase c ea) c.blockBytes) b =
      if b.toNat / c.blockBytes = ea.toNat / c.blockBytes then 0 else readByte m b := by
  simp only [readByte_zeroBytes _ _ _ _ hm, sub_blockBase_lt_iff]

theorem zeroGranted_plain {s t : State} (ea : Word) (ht : t = { s with msr := t.msr, pending := t.pending }) :
    zeroGranted s.cfg ea .plain t =
      { t with mem := zeroBytes s.mem (blockBase s.cfg ea) s.cfg.blockBytes, iar := s.nia } := by
  rw [zeroGranted, advance_eq_nia, ht]
  rfl

theorem zeroGranted_masked {s t : State} (ea : Word) (ht : t = { s with msr := t.msr, pending := t.pending }) :
    zeroGranted s.cfg ea .masked t =
      { t with
        mem := fillBytes (fun i => (freeDword (s.free + i)).setWidth 8) s.mem (blockBase s.cfg ea) s.cfg.blockBytes
        free := s.free + s.cfg.blockBytes
        iar := s.nia } := by
  rw [zeroGranted, advance_eq_nia, ht]
  rfl

theorem exec_dcbz_stopsWith {ra rb : Gpr} {s : State} {reply : DataReply} (hc : s.uncompared true (eaX s ra rb))
    (hreply : dcbzReply (eaX s ra rb) s = reply) : s.stopsWith true true (eaX s ra rb) reply (exec (.dcbz ra rb) s) := by
  rw [exec_dcbz_eq, hreply]
  exact stopsWith_request (q := .store) hc _

/-- Settles O39. -/
theorem blockZeroResults : Obligations.BlockZeroResults := by
  refine ⟨?_, ?_⟩
  swap
  · intro s ra rb ea hregion hc
    exact exec_dcbz_stopsWith hc (dcbzReply_outside hregion)
  intro s ra rb r hwf ea size hregion hc zeroed store answer reply next
  have hreply : dcbzReply ea s = reply := dcbzReply_inside hregion
  have hframe := accepted_eq s true ea reply
  have hexec {g : Grant} (h : request .store ea reply s = .done g (s.accepted true ea reply)) :
      exec (.dcbz ra rb) s = .next (zeroGranted s.cfg ea g (s.accepted true ea reply)) := by
    rw [exec_dcbz_eq]
    change Host.Outcome.next ((request .store ea (dcbzReply ea s) s).andThen _) = _
    rw [hreply, h, andThen_done]
  refine ⟨exec_dcbz_stopsWith hc hreply, fun hg => ⟨fun hs => ⟨zeroBytes s.mem (blockBase s.cfg ea) size, ?_, fun b => ?_⟩,
    fun hm => ⟨fillBytes (fun i => (freeDword (s.free + i)).setWidth 8) s.mem (blockBase s.cfg ea) size, ?_, fun b hb => ?_⟩,
    fun hs hm => ?_⟩⟩
  · rw [hexec (request_succeeds (q := .store) hc hg hs), zeroGranted_plain ea hframe]
  · exact readByte_zeroBlock s.cfg s.mem ea b hwf
  · rw [hexec (request_masked (q := .store) hc hg.1 hm), zeroGranted_masked ea hframe]
  · exact readByte_fillBytes_outside _ _ _ _ _ (mt (sub_blockBase_lt_iff s.cfg ea b).1 hb)
  · rw [hexec (request_deferred (q := .store) hc hg hm hs)]
    change Host.Outcome.next (s.accepted true ea reply).advance = .next { s.accepted true ea reply with mem := s.mem, iar := s.nia }
    rw [advance_accepted, ← accepted_mem s true ea reply]

/-! ### Data compares -/

theorem dacMatch_iff (store : Bool) (ea : Word) (s : State) :
    dacMatch store ea s = true ↔
      ((bitAt s.dbcr (if store then 13 else 12) = true ∧ (s.cfg.variant = .ppe42 → bitAt s.dbcr 8 = false)) ∧
        ea.toNat / 2 ^ ignoredBits 0 s = s.dacr.toNat / 2 ^ ignoredBits 0 s) ∨
        (s.cfg.variant = .ppe42x ∧ bitAt s.dbcr 29 = true ∧ ea = 0) := by
  have henabled : dacEnabled store s = true ↔
      bitAt s.dbcr (if store then 13 else 12) = true ∧ (s.cfg.variant = .ppe42 → bitAt s.dbcr 8 = false) := by
    unfold dacEnabled State.isX
    cases store <;> cases s.cfg.variant <;> simp
  rw [dacMatch, dacMask_eq]
  simp only [Bool.or_eq_true, Bool.and_eq_true, decide_eq_true_eq, masked_eq_iff, isX_iff, and_assoc, henabled]

/-- No debug event: its XSR bits and error output 3 are as before (10_state.md R69; 62_debug_xir.md R642). -/
structure SameDebug (s t : State) : Prop where
  rdac : t.xsr.rdac = s.xsr.rdac
  wdac : t.xsr.wdac = s.xsr.wdac
  iac : t.xsr.iac = s.xsr.iac
  trap : t.xsr.trap = s.xsr.trap
  error3 : t.out.error3 = s.out.error3

theorem sameDebug_of_eq {s t : State} (hx : t.xsr = s.xsr) (ho : t.out = s.out) : SameDebug s t := by
  constructor <;> simp only [hx, ho]

theorem SameDebug.trans {s t u : State} (h : SameDebug s t) (k : SameDebug t u) : SameDebug s u where
  rdac := k.rdac.trans h.rdac
  wdac := k.wdac.trans h.wdac
  iac := k.iac.trans h.iac
  trap := k.trap.trans h.trap
  error3 := k.error3.trans h.error3

theorem SameDebug.congr_left {s t u : State} (h : SameDebug t u) (hx : t.xsr = s.xsr) (ho : t.out = s.out) : SameDebug s u :=
  (sameDebug_of_eq hx ho).trans h

theorem sameDebug_haltAtVector (s : State) : SameDebug s (haltAtVector s) := ⟨rfl, rfl, rfl, rfl, rfl⟩

theorem sameDebug_machineCheck (a : Word) (s : State) : SameDebug s (machineCheck a s) := by
  unfold machineCheck
  split
  · exact sameDebug_of_eq rfl rfl
  · exact (sameDebug_haltAtVector _).congr_left rfl rfl

theorem sameDebug_reportImprecise (s : State) : SameDebug s (reportImprecise s) :=
  (sameDebug_machineCheck _ _).congr_left rfl rfl

theorem sameDebug_synchronised {s t : State} (h : SameDebug s t) : SameDebug s (synchronised s t) := by
  unfold synchronised
  split
  · exact h
  · exact sameDebug_reportImprecise s

theorem sameDebug_raise (e : Exception) (s : State) : SameDebug s (raise e s) := by
  have hrecord : SameDebug s (e.record s) := by cases e <;> exact sameDebug_of_eq rfl rfl
  refine sameDebug_synchronised (hrecord.trans ?_)
  unfold dispatch
  split_ifs
  · exact sameDebug_of_eq rfl rfl
  · exact (sameDebug_machineCheck _ _).congr_left rfl rfl
  · exact (sameDebug_haltAtVector _).congr_left rfl rfl

theorem sameDebug_dataMachineCheck (store : Bool) (a : Word) (s : State) : SameDebug s (dataMachineCheck store a s) :=
  sameDebug_synchronised ((sameDebug_machineCheck _ _).congr_left rfl rfl)

/-- The same of a request, done or abandoned. -/
def Access.SameDebug {α : Type} (s : State) : Access α → Prop
  | .done _ t => Machine.SameDebug s t
  | .taken t => Machine.SameDebug s t

theorem sameDebug_dataError (q : Request) (a : Word) (s : State) : (dataError q a s).SameDebug s := by
  unfold dataError
  split
  · exact sameDebug_of_eq rfl rfl
  · exact sameDebug_dataMachineCheck _ _ _

theorem sameDebug_writeBackError (line : Word) (s : State) : (writeBackError line s).SameDebug s := by
  have h := sameDebug_dataError .store line s
  unfold writeBackError
  cases heq : dataError .store line s <;> rw [heq] at h <;> exact h

theorem sameDebug_sibAccess (q : Request) (a : Word) (c : BitVec 3) (s : State) : (sibAccess q a c s).SameDebug s := by
  unfold sibAccess
  split_ifs
  · exact sameDebug_of_eq rfl rfl
  · exact sameDebug_of_eq rfl rfl
  · have h := sameDebug_dataError q a (sibComplete c s)
    cases heq : dataError q a (sibComplete c s) <;> rw [heq] at h <;> exact SameDebug.congr_left h rfl rfl

theorem sameDebug_request {q : Request} {a : Word} {reply : DataReply} {s : State} (hc : s.uncompared q.dac a) :
    (request q a reply s).SameDebug s := by
  cases hr : s.reportsNow with
  | true =>
    rw [request_reportsNow hc hr]
    exact sameDebug_reportImprecise s
  | false =>
    cases reply with
    | dsi =>
      simp only [request, uncompared_iff.1 hc, if_neg Bool.false_ne_true]
      exact sameDebug_raise _ s
    | align =>
      simp only [request, uncompared_iff.1 hc, if_neg Bool.false_ne_true]
      exact sameDebug_raise _ s
    | error =>
      rw [request_error hc hr]
      exact sameDebug_dataError q a s
    | writeBack line =>
      rw [request_writeBack hc hr]
      exact sameDebug_writeBackError line s
    | sib c =>
      rw [request_sib hc hr]
      exact sameDebug_sibAccess q a c s
    | ok =>
      rw [request_granted q a s hc hr]
      exact sameDebug_of_eq rfl rfl

/-- Every load, store and cache instruction is a request at the address that the compare sees, and what it does once it is granted sets
no debug event. -/
theorem exec_comparedAddress {s : State} {i : Instr} {store : Bool} {ea : Word} (hcompared : comparedAddress i s = some (store, ea))
    (hform : i.wellFormed s.cfg.variant = true) :
    ∃ (q : Request) (reply : DataReply) (f : Grant → State → State), q.dac = store ∧
      exec i s = .next ((request q ea reply s).andThen f) ∧ ∀ g t, SameDebug t (f g t) := by
  have hadvance (t : State) : SameDebug t t.advance := by
    rw [advance_eq_nia]
    exact sameDebug_of_eq rfl rfl
  have hcache {q : Request} {reply : DataReply} (hexec : exec i s = .next (cacheOp q reply ea s)) (hq : q.dac = store) :
      ∃ (q : Request) (reply : DataReply) (f : Grant → State → State), q.dac = store ∧
        exec i s = .next ((request q ea reply s).andThen f) ∧ ∀ g t, SameDebug t (f g t) :=
    ⟨q, reply, _, hq, hexec.trans (congrArg _ (cacheOp_eq q reply ea s)), fun _ => hadvance⟩
  have haccess (h : (memoryRequest i s).map (fun (store, _, ea) => (store, ea)) = some (store, ea)) :
      ∃ (q : Request) (reply : DataReply) (f : Grant → State → State), q.dac = store ∧
        exec i s = .next ((request q ea reply s).andThen f) ∧ ∀ g t, SameDebug t (f g t) := by
    obtain ⟨⟨store', n, ea'⟩, hreq, heq⟩ := Option.map_eq_some_iff.1 h
    cases heq
    obtain ⟨w, -, hexec⟩ := exec_memoryRequest hreq hform
    refine ⟨.ofStore store, _, _, rfl, hexec, fun g t => ?_⟩
    cases store <;> cases g <;> exact sameDebug_of_eq rfl rfl
  cases i with
  | dcbf =>
    cases hcompared
    exact hcache rfl (by rw [dcbfRequest_eq])
  | dcbi => cases hcompared; exact hcache rfl rfl
  | dcbt => cases hcompared; exact hcache rfl rfl
  | dcbz ra rb =>
    cases hcompared
    refine ⟨.store, _, _, rfl, exec_dcbz_eq ra rb s, fun g t => ?_⟩
    cases g with
    | plain | masked => exact (hadvance _).congr_left rfl rfl
    | deferred => exact hadvance t
  | dcbq rt ra rb =>
    cases hcompared
    refine ⟨.load, _, _, rfl, exec_dcbq_eq rt ra rb s, fun g t => ?_⟩
    cases g with
    | masked | plain | deferred => exact (hadvance _).congr_left rfl rfl
  | _ => exact haccess hcompared

/-- Settles O28. -/
theorem dataCompareHalts : Obligations.DataCompareHalts := by
  intro s i store ea hcompared hform ignored enabled hit
  have hhit : dacMatch store ea s = true ↔ hit := dacMatch_iff store ea s
  obtain ⟨q, reply, f, rfl, hexec, hf⟩ := exec_comparedAddress hcompared hform
  refine ⟨hhit, fun hmatch hrip => ?_, fun hnone => ?_⟩
  · rw [hexec, request_compare q ea reply s hrip (hhit.2 hmatch), andThen_taken, debugHalt_data _ s hrip]
  · have hc : s.uncompared q.dac ea := hnone.symm.imp id fun h => Bool.eq_false_iff.2 (mt hhit.1 h)
    have hrequest := sameDebug_request (reply := reply) hc
    refine ⟨_, hexec, ?_⟩
    have hsame : SameDebug s ((request q ea reply s).andThen f) := by
      cases heq : request q ea reply s with
      | done g t =>
        rw [heq] at hrequest
        exact SameDebug.trans hrequest (hf g t)
      | taken t =>
        rw [heq] at hrequest
        exact hrequest
    exact ⟨hsame.rdac, hsame.wdac, hsame.iac, hsame.trap, hsame.error3⟩

end Sys2Proof.Machine
end

section
/-! PROOFS. The stack pops (47_stack.md R400 to R406): the loads of a frame one by one, and the state that the first `k` of them leave. -/

namespace Sys2Proof.Machine

/-! ### Forms and displacements of the stack instructions -/

theorem signExtend_shiftLeft_three {n : Nat} (d : BitVec n) : d.signExtend 32 <<< 3 = BitVec.ofInt 32 (d.toInt * 8) := by
  rw [BitVec.shiftLeft_eq_mul_twoPow, BitVec.ofInt_mul]
  rfl

/-- A displacement of a pop is positive (47_stack.md R403, R409). -/
theorem stackDisp_positive (dd : BitVec 13) (h : dd.toNat ≤ 4095) : stackDisp dd = BitVec.ofNat 32 (dd.toNat * 8) := by
  have hint : dd.toInt = dd.toNat := by
    rw [BitVec.toInt_eq_toNat_cond, if_pos (by omega)]
  rw [stackDisp, signExtend_shiftLeft_three, hint, ← BitVec.ofInt_natCast]
  push_cast
  rfl

/-- A displacement of a push is negative. -/
theorem add_stackDisp_negative (a : Word) (dd : BitVec 13) (h : 4096 ≤ dd.toNat) :
    a + stackDisp dd = a - BitVec.ofNat 32 (8 * (8192 - dd.toNat)) := by
  have hlt := dd.isLt
  have hint : dd.toInt * 8 = -((8 * (8192 - dd.toNat) : Nat) : Int) := by
    rw [BitVec.toInt_eq_toNat_cond, if_neg (by omega)]
    omega
  rw [stackDisp, signExtend_shiftLeft_three, hint, BitVec.ofInt_neg, BitVec.ofInt_natCast, BitVec.sub_eq_add_neg]

theorem getMsbD_zero_iff (dd : BitVec 13) : dd.getMsbD 0 = decide (4096 ≤ dd.toNat) := BitVec.msb_eq_decide dd

theorem bits_sp_iff (w : Word) : bits w 29 3 = 0 ↔ w.toNat % 8 = 0 := by
  rw [bits_low w 29 3 rfl, ← BitVec.toNat_inj, BitVec.toNat_setWidth]
  rfl

theorem stackForm_aligned {form store : Bool} {sp : Gpr} {s t : State} (hform : (s.isX && form) = true)
    (h : (s.reg sp).toNat % 8 = 0) : stackForm form store sp s t = t := by
  rw [stackForm, validForm_valid _ _ _ hform, if_pos ((bits_sp_iff _).2 h)]

theorem stackForm_misaligned {form store : Bool} {sp : Gpr} {s t : State} (hform : (s.isX && form) = true)
    (h : (s.reg sp).toNat % 8 ≠ 0) (hp : s.pending = []) :
    stackForm form store sp s t = s.alignmentInterrupt store (s.reg sp) := by
  rw [stackForm, validForm_valid _ _ _ hform, if_neg (mt (bits_sp_iff _).1 h), raise_eq_dispatched _ s hp]
  rfl

/-- Settles O35. -/
theorem misalignedStackTakesAlignment : Obligations.MisalignedStackTakesAlignment := by
  intro s ra dd i store hmem hform hsp hp
  simp only [List.mem_cons, List.not_mem_nil, or_false, Prod.mk.injEq] at hmem
  rcases hmem with ⟨rfl, rfl⟩ | ⟨rfl, rfl⟩ | ⟨rfl, rfl⟩ | ⟨rfl, rfl⟩ <;>
    exact congrArg Host.Outcome.next (stackForm_misaligned hform hsp hp)

/-- The slots of a frame are the first two of a context (47_stack.md R402). -/
theorem frameSlots_take (m : Nat) : frameSlots.take m = contextSlots.take (min m 2) := by
  rw [show frameSlots = contextSlots.take 2 from rfl, List.take_take]

/-! ### The places of a context -/

/-- Where the registers of a slot stand: the high-order word at the slot, the low-order word 4 bytes on (47_stack.md R402). -/
theorem contextOffset_vdr {k : Nat} {d : Vdr} (h : contextSlots[k]? = some (.vdr d)) (r : Gpr) :
    (contextOffset r = some (8 * (k + 1)) ↔ r = d.high) ∧ (contextOffset r = some (8 * k + 4) ↔ r = d.low) := by
  have hk : k < 10 := (List.getElem?_eq_some_iff.1 h).1
  interval_cases k <;> cases h <;> cases r <;> decide

/-- Every register of a context stands in one of its slots. -/
theorem contextOffset_eq_some {r : Gpr} {e : Nat} (h : contextOffset r = some e) :
    ∃ (k : Nat) (d : Vdr), contextSlots[k]? = some (.vdr d) ∧ slotOf e = k + 1 ∧
      ((e = 8 * (k + 1) ∧ r = d.high) ∨ (e = 8 * k + 4 ∧ r = d.low)) := by
  cases r <;> cases h
  · exact ⟨8, .d0, rfl, rfl, .inl ⟨rfl, rfl⟩⟩
  · exact ⟨8, .d0, rfl, rfl, .inr ⟨rfl, rfl⟩⟩
  · exact ⟨7, .d3, rfl, rfl, .inl ⟨rfl, rfl⟩⟩
  · exact ⟨7, .d3, rfl, rfl, .inr ⟨rfl, rfl⟩⟩
  · exact ⟨6, .d5, rfl, rfl, .inl ⟨rfl, rfl⟩⟩
  · exact ⟨6, .d5, rfl, rfl, .inr ⟨rfl, rfl⟩⟩
  · exact ⟨5, .d7, rfl, rfl, .inl ⟨rfl, rfl⟩⟩
  · exact ⟨5, .d7, rfl, rfl, .inr ⟨rfl, rfl⟩⟩
  · exact ⟨4, .d9, rfl, rfl, .inl ⟨rfl, rfl⟩⟩
  · exact ⟨4, .d9, rfl, rfl, .inr ⟨rfl, rfl⟩⟩
  · exact ⟨1, .d28, rfl, rfl, .inl ⟨rfl, rfl⟩⟩
  · exact ⟨1, .d28, rfl, rfl, .inr ⟨rfl, rfl⟩⟩
  · exact ⟨0, .d30, rfl, rfl, .inl ⟨rfl, rfl⟩⟩
  · exact ⟨0, .d30, rfl, rfl, .inr ⟨rfl, rfl⟩⟩

theorem slotOf_high (k : Nat) : slotOf (8 * (k + 1)) = k + 1 := by
  unfold slotOf
  omega

theorem slotOf_low (k : Nat) : slotOf (8 * k + 4) = k + 1 := by
  unfold slotOf
  omega

/-- The slots of SRR0 and SRR1, of XER and CTR, and of CR and SPRG0. -/
theorem contextSlots_special {k : Nat} {x : Slot} (h : contextSlots[k]? = some x) :
    (∃ d, x = .vdr d ∧ k ≠ 2 ∧ k ≠ 3 ∧ k ≠ 9) ∨ (x = .srr ∧ k = 2) ∨ (x = .xerCtr ∧ k = 3) ∨ (x = .crSprg0 ∧ k = 9) := by
  have hk : k < 10 := (List.getElem?_eq_some_iff.1 h).1
  interval_cases k <;> cases h <;> simp

/-! ### Words of memory -/

theorem wordAt_eq_readWord (m : List Host.Cell) (a : Word) : wordAt m a = readWord m a := by
  rw [wordAt, ← readWord_toNat, BitVec.ofNat_toNat, BitVec.setWidth_eq]

theorem dwordHi_dwordOf (hi lo : Word) : dwordHi (dwordOf hi lo) = hi := by
  rw [dwordOf_eq_append]
  exact BitVec.extractLsb'_append_eq_left

theorem dwordLo_dwordOf (hi lo : Word) : dwordLo (dwordOf hi lo) = lo := by
  rw [dwordOf_eq_append]
  exact BitVec.extractLsb'_append_eq_right

theorem dwordHi_readMem (m : List Host.Cell) (a : Word) : dwordHi (readMem .dword m a) = wordAt m a := by
  rw [readMem, dwordHi_dwordOf, wordAt_eq_readWord]

theorem dwordLo_readMem_dword (m : List Host.Cell) (a : Word) : dwordLo (readMem .dword m a) = wordAt m (a + 4) := by
  rw [readMem, dwordLo_dwordOf, wordAt_eq_readWord]

theorem dwordLo_readMem_word (m : List Host.Cell) (a : Word) : dwordLo (readMem .word m a) = wordAt m a := by
  rw [readMem, dwordLo_eq_setWidth, BitVec.setWidth_setWidth_of_le _ (by decide), BitVec.setWidth_eq, wordAt_eq_readWord]

/-- The word 4 bytes on stands 4 bytes less below the header. -/
theorem sub_ofNat_add_four (a : Word) (n : Nat) : a - BitVec.ofNat 32 (n + 4) + 4 = a - BitVec.ofNat 32 n := by
  rw [BitVec.ofNat_add, ← sub_sub]
  exact sub_add_cancel _ _

theorem sub_ofNat_sub_eight (a : Word) (n : Nat) : a - BitVec.ofNat 32 n - 8 = a - BitVec.ofNat 32 (n + 8) := by
  rw [BitVec.ofNat_add, ← sub_sub]
  rfl

/-! ### The general registers by their values -/

/-- The general registers with given values. -/
def Gprs.ofFn (f : Gpr → Word) : Gprs :=
  ⟨f .r0, f .r1, f .r2, f .r3, f .r4, f .r5, f .r6, f .r7, f .r8, f .r9, f .r10, f .r13, f .r28, f .r29, f .r30, f .r31⟩

theorem gprs_get_ofFn (f : Gpr → Word) (r : Gpr) : (Gprs.ofFn f).get r = f r := by cases r <;> rfl

theorem gprs_ext {g h : Gprs} (heq : ∀ r, g.get r = h.get r) : g = h := by
  have hofFn (g : Gprs) : g = .ofFn g.get := rfl
  rw [hofFn g, hofFn h, funext heq]

/-! ### The state that the loads leave -/

/-- The word that stands at a distance below the frame header. -/
def frameWord (s : State) (ea : Word) (d : Nat) : Word := wordAt s.mem (ea - BitVec.ofNat 32 d)

/-- A GPR after the first `k` doublewords are loaded: its word of the frame, but for the stack pointer (47_stack.md R402). -/
def poppedReg (sp : Gpr) (ea : Word) (k : Nat) (s : State) (r : Gpr) : Word :=
  match contextOffset r with
  | some d => if slotOf d ≤ k ∧ r ≠ sp then frameWord s ea d else s.reg r
  | none => s.reg r

/-- The state after the first `k` doublewords are loaded (47_stack.md R404, R406). -/
def popped (sp : Gpr) (ea : Word) (k : Nat) (s : State) : State :=
  { s with
    gpr := .ofFn (poppedReg sp ea k s)
    edr := ea
    srr0 := if 3 ≤ k then frameWord s ea 24 &&& ~~~3 else s.srr0
    srr1 := if 3 ≤ k then frameWord s ea 20 &&& msrMask else s.srr1
    xer := if 4 ≤ k then ⟨bitAt (frameWord s ea 32) 0, bitAt (frameWord s ea 32) 1, bitAt (frameWord s ea 32) 2⟩ else s.xer
    ctr := if 4 ≤ k then frameWord s ea 28 else s.ctr
    cr0 := if 10 ≤ k then
        ⟨bitAt (frameWord s ea 80) 0, bitAt (frameWord s ea 80) 1, bitAt (frameWord s ea 80) 2, bitAt (frameWord s ea 80) 3⟩
      else s.cr0
    sprg0 := if 10 ≤ k then frameWord s ea 76 else s.sprg0 }

/-- A register of a later slot has its old value. -/
theorem poppedReg_of_slot_gt {sp r : Gpr} {ea : Word} {k d : Nat} {s : State} (h : contextOffset r = some d) (hd : k < slotOf d) :
    poppedReg sp ea k s r = s.reg r := by
  simp only [poppedReg, h]
  exact if_neg fun hle => absurd hle.1 (not_le.2 hd)

theorem popped_zero (sp : Gpr) (ea : Word) (s : State) : popped sp ea 0 s = { s with edr := ea } := by
  have hgpr : Gprs.ofFn (poppedReg sp ea 0 s) = s.gpr := by
    refine gprs_ext fun r => ?_
    rw [gprs_get_ofFn]
    cases hoff : contextOffset r with
    | none => simp only [poppedReg, hoff, reg_def]
    | some d =>
      obtain ⟨k, -, -, hslot, -⟩ := contextOffset_eq_some hoff
      rw [poppedReg_of_slot_gt hoff (by omega), reg_def]
  simp only [popped, hgpr]
  rfl

theorem get_setRegUnless (sp q : Gpr) (v : Word) (s : State) (r : Gpr) :
    (setRegUnless sp q v s).gpr.get r = if r = q ∧ r ≠ sp then v else s.gpr.get r := by
  unfold setRegUnless
  split
  next h =>
    subst h
    rw [if_neg (by tauto)]
  next h =>
    rw [setReg_gpr, gprs_get_set]
    by_cases hr : r = q
    · subst hr
      rw [if_pos rfl, if_pos ⟨rfl, h⟩]
    · rw [if_neg hr, if_neg (by tauto)]

theorem setRegUnless_eq (sp q : Gpr) (v : Word) (s : State) :
    setRegUnless sp q v s = { s with gpr := (setRegUnless sp q v s).gpr } := by
  unfold setRegUnless
  split <;> rfl

theorem loadSlot_vdr_eq (sp : Gpr) (d : Vdr) (v : Dword) (s : State) :
    loadSlot sp (.vdr d) v s = { s with gpr := (loadSlot sp (.vdr d) v s).gpr } := by
  rw [loadSlot, setRegUnless_eq, setRegUnless_eq sp d.high]

/-- The registers of the doubleword loaded next. -/
theorem poppedReg_succ_vdr {sp : Gpr} {ea : Word} {k : Nat} {d : Vdr} (s : State) (h : contextSlots[k]? = some (.vdr d)) (r : Gpr) :
    poppedReg sp ea (k + 1) s r =
      if r = d.low ∧ r ≠ sp then frameWord s ea (8 * k + 4)
      else if r = d.high ∧ r ≠ sp then frameWord s ea (8 * (k + 1)) else poppedReg sp ea k s r := by
  obtain ⟨hhigh, hlow⟩ := contextOffset_vdr h r
  by_cases hr : r = d.low
  · have hoff := hlow.2 hr
    rw [poppedReg_of_slot_gt (k := k) hoff (by rw [slotOf_low]; omega), if_neg (c := r = d.high ∧ r ≠ sp) fun hhigh' =>
      vdr_high_ne_low d (hhigh'.1.symm.trans hr)]
    simp only [poppedReg, hoff, slotOf_low, le_refl, true_and, eq_true hr]
  · rw [if_neg (by tauto)]
    by_cases hr' : r = d.high
    · have hoff := hhigh.2 hr'
      rw [poppedReg_of_slot_gt (k := k) hoff (by rw [slotOf_high]; omega)]
      simp only [poppedReg, hoff, slotOf_high, le_refl, true_and, eq_true hr']
    · rw [if_neg (by tauto)]
      cases hoff : contextOffset r with
      | none => simp only [poppedReg, hoff]
      | some e =>
        have hne : slotOf e ≠ k + 1 := by
          intro hslot
          obtain ⟨k', d', hk', hslot', hplace⟩ := contextOffset_eq_some hoff
          obtain rfl : k' = k := by omega
          obtain rfl : d' = d := by
            rw [h] at hk'
            cases hk'
            rfl
          tauto
        have hle : slotOf e ≤ k + 1 ↔ slotOf e ≤ k := by omega
        simp only [poppedReg, hoff, hle]

/-- No register stands in a slot of special registers. -/
theorem poppedReg_succ_special {sp : Gpr} {ea : Word} {k : Nat} (s : State) (h : ∀ d, contextSlots[k]? ≠ some (.vdr d)) (r : Gpr) :
    poppedReg sp ea (k + 1) s r = poppedReg sp ea k s r := by
  cases hoff : contextOffset r with
  | none => simp only [poppedReg, hoff]
  | some e =>
    have hne : slotOf e ≠ k + 1 := by
      intro hslot
      obtain ⟨k', d', hk', hslot', -⟩ := contextOffset_eq_some hoff
      obtain rfl : k' = k := by omega
      exact h d' hk'
    have hle : slotOf e ≤ k + 1 ↔ slotOf e ≤ k := by omega
    simp only [poppedReg, hoff, hle]

theorem dwordHi_frame (s : State) (ea : Word) (k : Nat) :
    dwordHi (readMem .dword s.mem (ea - BitVec.ofNat 32 (8 * (k + 1)))) = frameWord s ea (8 * (k + 1)) := dwordHi_readMem _ _

theorem dwordLo_frame (s : State) (ea : Word) (k : Nat) :
    dwordLo (readMem .dword s.mem (ea - BitVec.ofNat 32 (8 * (k + 1)))) = frameWord s ea (8 * k + 4) := by
  rw [dwordLo_readMem_dword, show 8 * (k + 1) = 8 * k + 4 + 4 by omega, sub_ofNat_add_four]
  rfl

/-- The next doubleword loaded. -/
theorem loadSlot_popped {sp : Gpr} {ea : Word} {k : Nat} {x : Slot} (s : State) (h : contextSlots[k]? = some x) :
    loadSlot sp x (readMem .dword s.mem (ea - BitVec.ofNat 32 (8 * (k + 1)))) (popped sp ea k s) = popped sp ea (k + 1) s := by
  have hspecial (hx : ∀ d, x ≠ .vdr d) : poppedReg sp ea (k + 1) s = poppedReg sp ea k s :=
    funext (poppedReg_succ_special s fun d hd => hx d (Option.some.inj (h.symm.trans hd)))
  rcases contextSlots_special h with ⟨d, rfl, h2, h3, h9⟩ | ⟨rfl, rfl⟩ | ⟨rfl, rfl⟩ | ⟨rfl, rfl⟩
  · have hgpr : (loadSlot sp (.vdr d) (readMem .dword s.mem (ea - BitVec.ofNat 32 (8 * (k + 1)))) (popped sp ea k s)).gpr =
        .ofFn (poppedReg sp ea (k + 1) s) := by
      refine gprs_ext fun r => ?_
      rw [loadSlot, get_setRegUnless, get_setRegUnless, gprs_get_ofFn, poppedReg_succ_vdr s h, dwordHi_frame, dwordLo_frame]
      rw [popped, gprs_get_ofFn]
    have hc3 : 3 ≤ k + 1 ↔ 3 ≤ k := by omega
    have hc4 : 4 ≤ k + 1 ↔ 4 ≤ k := by omega
    have hc10 : 10 ≤ k + 1 ↔ 10 ≤ k := by omega
    rw [loadSlot_vdr_eq, hgpr]
    simp only [popped, hc3, hc4, hc10]
  · simp only [loadSlot, popped, hspecial (by simp), dwordHi_frame, dwordLo_frame]
    rfl
  · simp only [loadSlot, popped, hspecial (by simp), dwordHi_frame, dwordLo_frame]
    rfl
  · simp only [loadSlot, popped, hspecial (by simp), dwordHi_frame, dwordLo_frame]
    rfl

end Sys2Proof.Machine
end

section
/-! PROOFS. `lsku` and `lcxu` (47_stack.md R404 to R406): the frame popped, and the pop stopped at one of its loads. -/

namespace Sys2Proof.Machine

/-! ### The loads, one by one -/

/-- What decides whether a request is granted, but for the address: the memory subsystem, the debug and control registers, the errors
pending. -/
def State.accessView (s : State) : Config × MemSys × Xsr × (Word × Word) × List Word :=
  (s.cfg, s.sys, s.xsr, (s.dbcr, s.dacr), s.pending)

theorem accessView_congr {s t : State} (h : t.accessView = s.accessView) (store : Bool) (a : Word) :
    t.sys = s.sys ∧ t.xsr.rip = s.xsr.rip ∧ dacMatch store a t = dacMatch store a s ∧ t.reportsNow = s.reportsNow := by
  simp only [State.accessView, Prod.mk.injEq] at h
  obtain ⟨hcfg, hsys, hxsr, ⟨hdbcr, hdacr⟩, hpending⟩ := h
  refine ⟨hsys, by rw [hxsr], ?_, ?_⟩
  · rw [Bool.eq_iff_iff, dacMatch_iff, dacMatch_iff]
    simp only [ignoredBits, hcfg, hdbcr, hdacr]
  · simp only [State.reportsNow, hcfg, hxsr, hpending]

theorem grants_congr {s t : State} (h : t.accessView = s.accessView) (store : Bool) (a : Word) (n : Nat) :
    t.grants store a n ↔ s.grants store a n := by
  obtain ⟨hsys, hrip, hdac, hreports⟩ := accessView_congr h store a
  rw [State.grants, State.grants, hsys, hrip, hdac, hreports]

theorem uncompared_congr {s t : State} (h : t.accessView = s.accessView) (store : Bool) (a : Word) :
    t.uncompared store a ↔ s.uncompared store a := by
  obtain ⟨-, hrip, hdac, -⟩ := accessView_congr h store a
  rw [State.uncompared, State.uncompared, hrip, hdac]

theorem popped_accessView (sp : Gpr) (ea : Word) (k : Nat) (s : State) : (popped sp ea k s).accessView = s.accessView := rfl

/-- The loads of the first `k` doublewords, all granted, leave the rest to load. -/
theorem popSlots_granted {sp : Gpr} {ea : Word} {n k : Nat} (s : State) (hn : n ≤ 10) (hk : k ≤ n)
    (hgrants : ∀ j, 1 ≤ j → j ≤ k → s.grants false (ea - BitVec.ofNat 32 (8 * j)) 8) :
    popSlots sp (contextSlots.take n) (ea - 8) { s with edr := ea } =
      popSlots sp ((contextSlots.take n).drop k) (ea - BitVec.ofNat 32 (8 * (k + 1))) (popped sp ea k s) := by
  induction k with
  | zero =>
    rw [popped_zero, List.drop_zero]
    rfl
  | succ k ih =>
    have hlt : k < (contextSlots.take n).length := by
      rw [List.length_take, show contextSlots.length = 10 from rfl]
      omega
    have hslot : contextSlots[k]? = some (contextSlots.take n)[k] := by
      rw [← List.getElem?_eq_getElem hlt, List.getElem?_take_of_lt (by omega)]
    obtain ⟨hreply, hdac, hreports⟩ :=
      (grants_congr (popped_accessView sp ea k s) false _ 8).2 (hgrants (k + 1) (by omega) le_rfl)
    rw [ih (by omega) fun j h1 hj => hgrants j h1 (by omega), List.drop_eq_getElem_cons hlt, popSlots,
      memRead_granted .dword _ _ hreply hdac hreports]
    change popSlots sp _ (_ - 8) (loadSlot sp _ (readMem .dword s.mem _) _) = _
    rw [loadSlot_popped s hslot, sub_ofNat_sub_eight]
    rfl

theorem popSlots_cons_andThen (sp : Gpr) (x : Slot) (xs : List Slot) (a : Word) (t : State) (f : Unit → State → State) :
    (popSlots sp (x :: xs) a t).andThen f =
      (memRead .dword a t).andThen fun v u => (popSlots sp xs (a - 8) (loadSlot sp x v u)).andThen f := by
  rw [popSlots]
  cases memRead .dword a t <;> rfl

/-- The end of a pop: LR, and the stack pointer last (47_stack.md R404). -/
def popEnd (sp : Gpr) (ea : Word) (v : Dword) (t : State) : State := ({ t with lr := dwordLo v }.setReg sp ea).advance

/-- A pop is its loads, then the load of LR. -/
theorem popFrame_eq_andThen {sp : Gpr} {n : Nat} {dd : BitVec 13} {s : State} {ea : Word} (hea : s.reg sp + stackDisp dd = ea) :
    popFrame sp (contextSlots.take n) dd s =
      (popSlots sp (contextSlots.take n) (ea - 8) { s with edr := ea }).andThen fun _ t =>
        (memRead .word (ea + 4) t).andThen (popEnd sp ea) := by
  subst hea
  exact popFrame_eq sp _ dd s

/-- The address and the size of the load that comes after the first `k` doublewords (47_stack.md R404). -/
def popAccess (ea : Word) (n k : Nat) : Word × Nat := if k < n then (ea - BitVec.ofNat 32 (8 * (k + 1)), 8) else (ea + 4, 4)

/-- A pop whose first `k` loads are granted goes on with the next one. -/
theorem popFrame_request {sp : Gpr} {n k : Nat} {dd : BitVec 13} {s : State} {ea : Word} (hea : s.reg sp + stackDisp dd = ea)
    (hn : n ≤ 10) (hk : k ≤ n) (hgrants : ∀ j, 1 ≤ j → j ≤ k → s.grants false (ea - BitVec.ofNat 32 (8 * j)) 8) :
    ∃ f : Grant → State → State, popFrame sp (contextSlots.take n) dd s =
      (request .load (popAccess ea n k).1 (s.sys.dataReply false (popAccess ea n k).1 (popAccess ea n k).2)
        (popped sp ea k s)).andThen f := by
  have hlen : (contextSlots.take n).length = n := by
    rw [List.length_take, show contextSlots.length = 10 from rfl]
    omega
  rw [popFrame_eq_andThen hea, popSlots_granted s hn hk hgrants, popAccess]
  by_cases hlt : k < n
  · rw [if_pos hlt, List.drop_eq_getElem_cons (hlen.symm ▸ hlt), popSlots_cons_andThen, memRead_andThen]
    exact ⟨_, rfl⟩
  · rw [if_neg hlt, List.drop_of_length_le (by omega)]
    exact ⟨_, memRead_andThen .word (ea + 4) (popped sp ea k s) (popEnd sp ea)⟩

/-- A pop all of whose loads are granted. -/
theorem popFrame_granted {sp : Gpr} {n : Nat} {dd : BitVec 13} {s : State} {ea : Word} (hea : s.reg sp + stackDisp dd = ea)
    (hn : n ≤ 10) (hgrants : ∀ j, 1 ≤ j → j ≤ n → s.grants false (ea - BitVec.ofNat 32 (8 * j)) 8) (hlr : s.grants false (ea + 4) 4) :
    popFrame sp (contextSlots.take n) dd s =
      { popped sp ea n s with
        gpr := (popped sp ea n s).gpr.set sp ea, lr := wordAt s.mem (ea + 4), iar := s.nia } := by
  have hlen : (contextSlots.take n).length ≤ n := List.length_take_le _ _
  obtain ⟨hreply, hdac, hreports⟩ := (grants_congr (popped_accessView sp ea n s) false _ 4).2 hlr
  rw [popFrame_eq_andThen hea, popSlots_granted s hn le_rfl hgrants, List.drop_of_length_le hlen]
  change (memRead .word (ea + 4) (popped sp ea n s)).andThen _ = _
  rw [memRead_granted .word _ _ hreply hdac hreports, andThen_done, popEnd, setReg_advance_eq, dwordLo_readMem_word]
  rfl

theorem popped_get (sp : Gpr) (ea : Word) (k : Nat) (s : State) (r : Gpr) : (popped sp ea k s).gpr.get r = poppedReg sp ea k s r :=
  gprs_get_ofFn _ r

/-! ### The two instructions -/

theorem extractLsb'_low_toNat (dd : BitVec 13) : (dd.extractLsb' 0 12).toNat = dd.toNat % 4096 := by
  rw [BitVec.extractLsb'_toNat, Nat.shiftRight_zero]

theorem lskuForm_eq (ra : Gpr) (dd : BitVec 13) (hra : ra ≠ .r0) :
    lskuForm ra ra dd = decide (1 ≤ dd.toNat ∧ dd.toNat ≤ 4095) := by
  have hzero : dd.extractLsb' 0 12 ≠ 0 ↔ dd.toNat % 4096 ≠ 0 := by
    rw [ne_eq, ← BitVec.toNat_inj, extractLsb'_low_toNat]
    rfl
  rw [Bool.eq_iff_iff]
  simp only [lskuForm, Bool.and_eq_true, decide_eq_true_eq, Bool.not_eq_true', getMsbD_zero_iff, decide_eq_false_iff_not, hzero]
  have hlt := dd.isLt
  simp only [hra, ne_eq, not_false_eq_true, true_and]
  omega

theorem lcxuForm_eq (ra : Gpr) (dd : BitVec 13) (hra : ra ≠ .r0) :
    lcxuForm ra ra dd = decide (11 ≤ dd.toNat ∧ dd.toNat ≤ 4095) := by
  rw [Bool.eq_iff_iff]
  simp only [lcxuForm, Bool.and_eq_true, decide_eq_true_eq, Bool.not_eq_true', getMsbD_zero_iff, decide_eq_false_iff_not,
    extractLsb'_low_toNat]
  have hlt := dd.isLt
  simp only [hra, ne_eq, not_false_eq_true, true_and]
  omega

theorem lskuForm_bounds {ra : Gpr} {dd : BitVec 13} {x : Bool} (h : (x && lskuForm ra ra dd) = true) :
    1 ≤ dd.toNat ∧ dd.toNat ≤ 4095 := by
  obtain ⟨-, hform⟩ := Bool.and_eq_true_iff.1 h
  have hra : ra ≠ .r0 := by
    rintro rfl
    simp [lskuForm] at hform
  rw [lskuForm_eq ra dd hra] at hform
  exact of_decide_eq_true hform

theorem lcxuForm_bounds {ra : Gpr} {dd : BitVec 13} {x : Bool} (h : (x && lcxuForm ra ra dd) = true) :
    11 ≤ dd.toNat ∧ dd.toNat ≤ 4095 := by
  obtain ⟨-, hform⟩ := Bool.and_eq_true_iff.1 h
  have hra : ra ≠ .r0 := by
    rintro rfl
    simp [lcxuForm] at hform
  rw [lcxuForm_eq ra dd hra] at hform
  exact of_decide_eq_true hform

theorem form_and_isX {s : State} {form : Bool} (hx : s.cfg.variant = .ppe42x) (hform : form = true) : (s.isX && form) = true := by
  rw [(isX_iff s).2 hx, hform]
  rfl

theorem exec_lsku {s : State} {ra : Gpr} {dd : BitVec 13} (hform : (s.isX && lskuForm ra ra dd) = true)
    (hsp : (s.reg ra).toNat % 8 = 0) :
    exec (.lsku ra ra dd) s = .next (popFrame ra (contextSlots.take (min (dd.toNat - 1) 2)) dd s) := by
  rw [← frameSlots_take]
  exact congrArg Host.Outcome.next (stackForm_aligned hform hsp)

theorem exec_lcxu {s : State} {ra : Gpr} {dd : BitVec 13} (hform : (s.isX && lcxuForm ra ra dd) = true)
    (hsp : (s.reg ra).toNat % 8 = 0) : exec (.lcxu ra ra dd) s = .next (popFrame ra (contextSlots.take 10) dd s) :=
  congrArg Host.Outcome.next (stackForm_aligned hform hsp)

/-- A GPR after a frame of at most two doublewords is popped (47_stack.md R402). -/
theorem poppedReg_frame {sp r : Gpr} {ea : Word} {k : Nat} (s : State) (hk : k ≤ 2) (hr : r ≠ sp) :
    poppedReg sp ea k s r =
      if 1 ≤ k ∧ r = .r30 then frameWord s ea 8
      else if 1 ≤ k ∧ r = .r31 then frameWord s ea 4
      else if 2 ≤ k ∧ r = .r28 then frameWord s ea 16
      else if 2 ≤ k ∧ r = .r29 then frameWord s ea 12
      else s.reg r := by
  cases r with
  | r28 | r29 | r30 | r31 => simp [poppedReg, contextOffset, slotOf, hr]
  | r2 | r13 => simp [poppedReg, contextOffset]
  | _ =>
    rw [poppedReg_of_slot_gt rfl (hk.trans_lt (by decide))]
    simp

/-- Settles O31: of the context's slots the frame has the first two at most. -/
theorem stackPopResult : Obligations.StackPopResult := by
  intro s ra dd ea hx hra hlow hhigh hsp hlr hgrant1 hgrant2
  have hform := form_and_isX hx ((lskuForm_eq ra dd hra).trans (decide_eq_true ⟨hlow, hhigh⟩))
  have hea : s.reg ra + stackDisp dd = ea := by rw [stackDisp_positive dd hhigh]
  have hgrants : ∀ j, 1 ≤ j → j ≤ min (dd.toNat - 1) 2 → s.grants false (ea - BitVec.ofNat 32 (8 * j)) 8 := by
    intro j h1 hj
    obtain rfl | rfl : j = 1 ∨ j = 2 := by omega
    · exact hgrant1 (by omega)
    · exact hgrant2 (by omega)
  have h3 : ¬ 3 ≤ min (dd.toNat - 1) 2 := by omega
  have h4 : ¬ 4 ≤ min (dd.toNat - 1) 2 := by omega
  have h10 : ¬ 10 ≤ min (dd.toNat - 1) 2 := by omega
  refine ⟨(popped ra ea (min (dd.toNat - 1) 2) s).gpr.set ra ea, ?_, fun r => ?_⟩
  · rw [exec_lsku hform hsp, popFrame_granted hea (by omega) hgrants hlr]
    simp only [popped, if_neg h3, if_neg h4, if_neg h10]
  · rw [gprs_get_set, popped_get]
    by_cases hr : r = ra
    · rw [if_pos hr, if_pos hr]
    · have hslot1 : 1 ≤ min (dd.toNat - 1) 2 ↔ 2 ≤ dd.toNat := by omega
      have hslot2 : 2 ≤ min (dd.toNat - 1) 2 ↔ 3 ≤ dd.toNat := by omega
      rw [if_neg hr, if_neg hr]
      simp only [poppedReg_frame s (Nat.min_le_right _ _) hr, hslot1, hslot2]
      rfl

/-- Settles O32. -/
theorem contextPopResult : Obligations.ContextPopResult := by
  intro s ra dd ea word hx hra hlow hhigh hsp hlr hgrants
  have hform := form_and_isX hx ((lcxuForm_eq ra dd hra).trans (decide_eq_true ⟨hlow, hhigh⟩))
  have hea : s.reg ra + stackDisp dd = ea := by rw [stackDisp_positive dd hhigh]
  refine ⟨(popped ra ea 10 s).gpr.set ra ea, ?_, fun r => ?_⟩
  · rw [exec_lcxu hform hsp, popFrame_granted hea le_rfl hgrants hlr]
    rfl
  · rw [gprs_get_set, popped_get]
    by_cases hr : r = ra
    · rw [if_pos hr, if_pos hr]
    · rw [if_neg hr, if_neg hr]
      cases hoff : contextOffset r with
      | none => simp only [poppedReg, hoff]
      | some d =>
        obtain ⟨k, _, hk, hslot, -⟩ := contextOffset_eq_some hoff
        have hlt : k < 10 := (List.getElem?_eq_some_iff.1 hk).1
        simp only [poppedReg, hoff]
        exact if_pos ⟨by omega, hr⟩

/-- Settles O36: the load after the first `k` is a request in the state that they leave. -/
theorem stackPopStops : Obligations.StackPopStops := by
  intro s ra dd i n k hmem hform hsp hk ea word hgrants a reply
  have hpop : n ≤ 10 ∧ s.reg ra + stackDisp dd = ea ∧ exec i s = .next (popFrame ra (contextSlots.take n) dd s) := by
    simp only [List.mem_cons, List.not_mem_nil, or_false, Prod.mk.injEq] at hmem
    have hea (h : dd.toNat ≤ 4095) : s.reg ra + stackDisp dd = ea := by rw [stackDisp_positive dd h]
    rcases hmem with ⟨rfl, rfl⟩ | ⟨rfl, rfl⟩
    · obtain ⟨-, hhigh⟩ := lskuForm_bounds hform
      exact ⟨by omega, hea hhigh, exec_lsku hform hsp⟩
    · obtain ⟨-, hhigh⟩ := lcxuForm_bounds hform
      exact ⟨le_rfl, hea hhigh, exec_lcxu hform hsp⟩
  obtain ⟨hn, hea, hexec⟩ := hpop
  obtain ⟨f, hrequest⟩ := popFrame_request hea hn hk hgrants
  have haccess : popAccess ea n k = (a, if k < n then 8 else 4) := by
    unfold popAccess
    split
    next h => simp only [a, if_pos h]
    next h => simp only [a, if_neg h]
  rw [haccess] at hrequest
  refine ⟨(popped ra ea k s).gpr, fun r => popped_get ra ea k s r, fun hrip hdac => ?_, fun hc => ?_⟩
  · have hmatch : dacMatch false a (popped ra ea k s) = true := by
      obtain ⟨-, -, hsame, -⟩ := accessView_congr (popped_accessView ra ea k s) false a
      rwa [hsame]
    rw [hexec, hrequest, request_compare .load a _ (popped ra ea k s) hrip hmatch, andThen_taken]
    exact congrArg Host.Outcome.next (debugHalt_data false (popped ra ea k s) hrip)
  · rw [hexec, hrequest]
    exact stopsWith_request (q := .load) ((uncompared_congr (popped_accessView ra ea k s) false a).2 hc) f

end Sys2Proof.Machine
end

section
/-! PROOFS. `stsku` and `stcxu` (47_stack.md R405 to R410): the words that a push leaves in memory, and the push stopped at one of its
stores. Addresses are given by their distance below the stack pointer, modulo 2^32. -/

namespace Sys2Proof.Machine

/-! ### Words in stored bytes -/

theorem bigEndian_congr {m m' : List Host.Cell} {a : Word} {n : Nat}
    (h : ∀ i < n, readByte m' (a + BitVec.ofNat 32 i) = readByte m (a + BitVec.ofNat 32 i)) : bigEndian m' a n = bigEndian m a n := by
  induction n with
  | zero => rfl
  | succ n ih => rw [bigEndian, bigEndian, ih fun i hi => h i (by omega), h n (by omega)]

/-- A word none of whose bytes is stored to is as before. -/
theorem wordAt_storedAt_other {m m' : List Host.Cell} {a c : Word} {n : Nat} {v : Dword} (h : storedAt m m' a n v)
    (hapart : ∀ i < 4, n ≤ (c + BitVec.ofNat 32 i - a).toNat) : wordAt m' c = wordAt m c := by
  rw [wordAt, wordAt, bigEndian_congr fun i hi => ?_]
  rw [h, if_neg (Nat.not_lt.2 (hapart i hi))]

theorem readWord_of_bytes {m : List Host.Cell} {a w : Word} (h0 : readByte m a = bits w 0 8) (h1 : readByte m (a + 1) = bits w 8 8)
    (h2 : readByte m (a + 2) = bits w 16 8) (h3 : readByte m (a + 3) = bits w 24 8) : wordAt m a = w := by
  have hsplit : bits w 0 8 ++ bits w 8 8 ++ bits w 16 8 ++ bits w 24 8 = bits w 0 32 := by
    rw [← bits_split w 0 8 8 (by omega), ← bits_split w 0 16 8 (by omega), ← bits_split w 0 24 8 (by omega)]
  rw [wordAt_eq_readWord, readWord, h0, h1, h2, h3, wordOfBytes_eq_append, hsplit, bits_low w 0 32 rfl, BitVec.setWidth_eq]

/-- The byte at a small distance from where a value is stored is one of its bytes. -/
theorem readByte_storedAt {m m' : List Host.Cell} {a : Word} {n k : Nat} {v : Dword} (h : storedAt m m' a n v) (hk : k < n)
    (hn : n ≤ 8) : readByte m' (a + BitVec.ofNat 32 k) = byteOf v n k := by
  have hsub : (a + BitVec.ofNat 32 k - a).toNat = k := by
    rw [BitVec.add_comm, BitVec.add_sub_cancel, BitVec.toNat_ofNat, Nat.mod_eq_of_lt (by omega)]
  rw [h, hsub, if_pos hk]

theorem byteOf_word (v : Dword) (k : Nat) (hk : k < 4) : byteOf v 4 k = bits (dwordLo v) (8 * k) 8 := by
  rw [bits_dwordLo _ _ (by omega), byteOf, show 8 * (4 - 1 - k) = 24 - 8 * k by omega]

theorem byteOf_dword_high (v : Dword) (k : Nat) (hk : k < 4) : byteOf v 8 k = bits (dwordHi v) (8 * k) 8 := by
  rw [bits_dwordHi _ _ (by omega), byteOf, show 8 * (8 - 1 - k) = 56 - 8 * k by omega]

theorem byteOf_dword_low (v : Dword) (k : Nat) (hk : k < 4) : byteOf v 8 (4 + k) = bits (dwordLo v) (8 * k) 8 := by
  rw [bits_dwordLo _ _ (by omega), byteOf, show 8 * (8 - 1 - (4 + k)) = 24 - 8 * k by omega]

theorem wordAt_storedAt_word {m m' : List Host.Cell} {a : Word} {v : Dword} (h : storedAt m m' a 4 v) : wordAt m' a = dwordLo v := by
  have hbyte (k : Nat) (hk : k < 4) : readByte m' (a + BitVec.ofNat 32 k) = bits (dwordLo v) (8 * k) 8 := by
    rw [readByte_storedAt h hk (by omega), byteOf_word v k hk]
  have hfirst := hbyte 0 (by omega)
  rw [BitVec.add_zero] at hfirst
  exact readWord_of_bytes hfirst (hbyte 1 (by omega)) (hbyte 2 (by omega)) (hbyte 3 (by omega))

theorem wordAt_storedAt_dword {m m' : List Host.Cell} {a : Word} {v : Dword} (h : storedAt m m' a 8 v) :
    wordAt m' a = dwordHi v ∧ wordAt m' (a + 4) = dwordLo v := by
  have hhigh (k : Nat) (hk : k < 4) : readByte m' (a + BitVec.ofNat 32 k) = bits (dwordHi v) (8 * k) 8 := by
    rw [readByte_storedAt h (by omega) (by omega), byteOf_dword_high v k hk]
  have hlow (k : Nat) (hk : k < 4) : readByte m' (a + 4 + BitVec.ofNat 32 k) = bits (dwordLo v) (8 * k) 8 := by
    rw [BitVec.add_assoc, show (4 : Word) = BitVec.ofNat 32 4 from rfl, ← BitVec.ofNat_add, readByte_storedAt h (by omega) (by omega),
      byteOf_dword_low v k hk]
  have hfirst := hhigh 0 (by omega)
  have hfirst' := hlow 0 (by omega)
  rw [BitVec.add_zero] at hfirst hfirst'
  exact ⟨readWord_of_bytes hfirst (hhigh 1 (by omega)) (hhigh 2 (by omega)) (hhigh 3 (by omega)),
    readWord_of_bytes hfirst' (hlow 1 (by omega)) (hlow 2 (by omega)) (hlow 3 (by omega))⟩

/-! ### Distances -/

/-- The word above the stack pointer's is at the distance -4, modulo 2^32. -/
theorem add_four_eq_sub (sp : Word) : sp + 4 = sp - BitVec.ofNat 32 (2 ^ 32 - 4) := by
  rw [BitVec.sub_eq_add_neg]
  rfl

theorem toNat_sub_sub_ofNat (b sp : Word) (d : Nat) : (b - (sp - BitVec.ofNat 32 d)).toNat = ((b - sp).toNat + d) % 2 ^ 32 := by
  have hdistance : b - (sp - BitVec.ofNat 32 d) = b - sp + BitVec.ofNat 32 d := by abel
  rw [hdistance, BitVec.toNat_add, BitVec.toNat_ofNat, Nat.add_mod_mod]

/-- Where byte `i` of the word at one distance is from the address at another. -/
theorem toNat_distance (sp : Word) (e i d : Nat) (he : e ≤ 2 ^ 32) :
    (sp - BitVec.ofNat 32 e + BitVec.ofNat 32 i - (sp - BitVec.ofNat 32 d)).toNat = (d + i + (2 ^ 32 - e)) % 2 ^ 32 := by
  have hdistance : sp - BitVec.ofNat 32 e + BitVec.ofNat 32 i - (sp - BitVec.ofNat 32 d) =
      BitVec.ofNat 32 d + BitVec.ofNat 32 i - BitVec.ofNat 32 e := by abel
  rw [hdistance, BitVec.toNat_sub, BitVec.toNat_add, BitVec.toNat_ofNat, BitVec.toNat_ofNat, BitVec.toNat_ofNat]
  omega

/-- A store at one distance leaves a word at another as it is. -/
theorem wordAt_stored_apart {m m' : List Host.Cell} {sp : Word} {d e n : Nat} {v : Dword}
    (h : storedAt m m' (sp - BitVec.ofNat 32 d) n v) (he : e ≤ 2 ^ 32) (hapart : ∀ i < 4, n ≤ (d + i + (2 ^ 32 - e)) % 2 ^ 32) :
    wordAt m' (sp - BitVec.ofNat 32 e) = wordAt m (sp - BitVec.ofNat 32 e) :=
  wordAt_storedAt_other h fun i hi => by rw [toNat_distance sp e i d he]; exact hapart i hi

/-! ### The memory after the first stores of a push -/

/-- The words of the first `k` stores of a push: LR above the stack pointer, then the doublewords below it (47_stack.md R402). -/
structure FrameWords (s : State) (sp : Word) (k : Nat) (m : List Host.Cell) : Prop where
  lr : 1 ≤ k → wordAt m (sp + 4) = s.lr
  slots : ∀ j x, contextSlots[j]? = some x → j + 1 < k →
    wordAt m (sp - BitVec.ofNat 32 (8 * (j + 1))) = dwordHi (slotValue x s) ∧
      wordAt m (sp - BitVec.ofNat 32 (8 * j + 4)) = dwordLo (slotValue x s)

/-- A store further down leaves these words as they are. -/
theorem FrameWords.storedAt {s : State} {sp : Word} {k n d : Nat} {m m' : List Host.Cell} {v : Dword} (h : FrameWords s sp k m)
    (hstored : storedAt m m' (sp - BitVec.ofNat 32 d) n v) (hd : 8 * (k - 1) + n ≤ d) (hn : n ≤ 8) (hlow : d ≤ 2 ^ 16) :
    FrameWords s sp k m' where
  lr hk := by
    have hlr := h.lr hk
    rw [add_four_eq_sub] at hlr ⊢
    rw [wordAt_stored_apart hstored (by omega) (by omega), hlr]
  slots j x hx hj := by
    have hslot : j < 10 := (List.getElem?_eq_some_iff.1 hx).1
    obtain ⟨hhi, hlo⟩ := h.slots j x hx hj
    rw [wordAt_stored_apart hstored (by omega) (by omega), wordAt_stored_apart hstored (by omega) (by omega)]
    exact ⟨hhi, hlo⟩

/-- The memory after the first `k` stores: their words, and every other byte as before. -/
structure Pushed (s : State) (sp : Word) (k : Nat) (m : List Host.Cell) : Prop where
  wf : Memory.wf m = true
  words : FrameWords s sp k m
  frame : ∀ b : Word, (1 ≤ k → 4 ≤ (b - (sp + 4)).toNat) → 8 * (k - 1) ≤ (b - (sp - BitVec.ofNat 32 (8 * (k - 1)))).toNat →
    readByte m b = readByte s.mem b

theorem pushed_zero {s : State} {sp : Word} (h : Memory.wf s.mem = true) : Pushed s sp 0 s.mem :=
  ⟨h, ⟨fun hk => absurd hk (by omega), fun j x _ hj => absurd hj (by omega)⟩, fun _ _ _ => rfl⟩

theorem dwordLo_setWidth (w : Word) : dwordLo (w.setWidth 64) = w := by
  rw [dwordLo_eq_setWidth, BitVec.setWidth_setWidth_of_le _ (by decide), BitVec.setWidth_eq]

theorem pushed_one {s : State} {sp : Word} (h : Memory.wf s.mem = true) :
    Pushed s sp 1 (writeMem .word s.mem (sp + 4) (s.lr.setWidth 64)) := by
  have hstored := writeMem_storedAt .word s.mem (sp + 4) (s.lr.setWidth 64) h
  refine ⟨writeMem_canonical _ _ _ _ h, ⟨fun _ => ?_, fun j x _ hj => absurd hj (by omega)⟩, fun b hb _ => ?_⟩
  · rw [wordAt_storedAt_word hstored, dwordLo_setWidth]
  · have hout : ¬ (b - (sp + 4)).toNat < Width.word.bytes := Nat.not_lt.2 (hb le_rfl)
    rw [hstored, if_neg hout]

theorem pushed_succ {s : State} {sp : Word} {k : Nat} {x : Slot} {m : List Host.Cell} (h : Pushed s sp (k + 1) m)
    (hx : contextSlots[k]? = some x) :
    Pushed s sp (k + 2) (writeMem .dword m (sp - BitVec.ofNat 32 (8 * (k + 1))) (slotValue x s)) := by
  have hk : k < 10 := (List.getElem?_eq_some_iff.1 hx).1
  have hstored := writeMem_storedAt .dword m (sp - BitVec.ofNat 32 (8 * (k + 1))) (slotValue x s) h.wf
  have hwords := h.words.storedAt hstored (by change _ + 8 ≤ _; omega) le_rfl (by omega)
  refine ⟨writeMem_canonical _ _ _ _ h.wf, ⟨fun _ => hwords.lr (by omega), fun j y hy hj => ?_⟩, fun b hlr hb => ?_⟩
  · by_cases hlast : j = k
    · subst hlast
      obtain rfl := Option.some.inj (hx.symm.trans hy)
      obtain ⟨hhi, hlo⟩ := wordAt_storedAt_dword hstored
      rw [show 8 * (j + 1) = 8 * j + 4 + 4 by omega, sub_ofNat_add_four] at hlo
      exact ⟨hhi, hlo⟩
    · exact hwords.slots j y hy (by omega)
  · rw [toNat_sub_sub_ofNat] at hb
    have hlt := (b - sp).isLt
    have hout : ¬ (b - (sp - BitVec.ofNat 32 (8 * (k + 1)))).toNat < Width.dword.bytes := by
      rw [toNat_sub_sub_ofNat]
      change ¬ _ < 8
      omega
    rw [hstored, if_neg hout]
    refine h.frame b (fun _ => hlr (by omega)) ?_
    rw [toNat_sub_sub_ofNat]
    omega

/-! ### The stores, one by one -/

theorem slotValue_congr (x : Slot) (s : State) (m : List Host.Cell) (e : Word) :
    slotValue x { s with mem := m, edr := e } = slotValue x s := by
  cases x <;> rfl

theorem pushSlots_cons_andThen (x : Slot) (xs : List Slot) (a : Word) (t : State) (f : Unit → State → State) :
    (pushSlots (x :: xs) a t).andThen f =
      (memWrite .dword a (slotValue x t) t).andThen fun _ u => (pushSlots xs (a - 8) u).andThen f := by
  rw [pushSlots]
  cases memWrite .dword a (slotValue x t) t <;> rfl

theorem contextSlots_take_getElem? {n k : Nat} (hn : n ≤ 10) (hk : k < n) :
    ∃ x, contextSlots[k]? = some x ∧ (contextSlots.take n).drop k = x :: (contextSlots.take n).drop (k + 1) := by
  have hlt : k < (contextSlots.take n).length := by
    rw [List.length_take, show contextSlots.length = 10 from rfl]
    omega
  exact ⟨_, by rw [← List.getElem?_eq_getElem hlt, List.getElem?_take_of_lt hk], List.drop_eq_getElem_cons hlt⟩

/-- The stores of the first `k` doublewords, all granted, leave the rest to store. -/
theorem pushSlots_granted {s : State} {sp : Word} {n k : Nat} {m : List Host.Cell} (hn : n ≤ 10) (hk : k ≤ n) (hm : Pushed s sp 1 m)
    (hgrants : ∀ j, 1 ≤ j → j ≤ k → s.grants true (sp - BitVec.ofNat 32 (8 * j)) 8) :
    ∃ m', Pushed s sp (k + 1) m' ∧
      pushSlots (contextSlots.take n) (sp - 8) { s with mem := m, edr := sp } =
        pushSlots ((contextSlots.take n).drop k) (sp - BitVec.ofNat 32 (8 * (k + 1))) { s with mem := m', edr := sp } := by
  induction k with
  | zero => exact ⟨m, hm, rfl⟩
  | succ k ih =>
    obtain ⟨m', hm', heq⟩ := ih (by omega) fun j h1 hj => hgrants j h1 (by omega)
    obtain ⟨x, hx, hdrop⟩ := contextSlots_take_getElem? hn (Nat.lt_of_succ_le hk)
    obtain ⟨hreply, hdac, hreports⟩ :=
      (grants_congr (s := s) (t := { s with mem := m', edr := sp }) rfl true _ 8).2 (hgrants (k + 1) (by omega) le_rfl)
    refine ⟨_, pushed_succ hm' hx, ?_⟩
    rw [heq, hdrop, pushSlots, memWrite_granted .dword _ _ _ hreply hdac hreports, slotValue_congr]
    change pushSlots _ (_ - 8) _ = _
    rw [sub_ofNat_sub_eight]
    rfl

/-- The address and the size of store `k` of a push (47_stack.md R407, R408). -/
def pushAccess (sp ea : Word) (n k : Nat) : Word × Nat :=
  if k = 0 then (sp + 4, 4) else if k ≤ n then (sp - BitVec.ofNat 32 (8 * k), 8) else (ea, 4)

/-- The end of a push: storage synchronisation, and the stack pointer last (47_stack.md R407, R410). -/
def pushEnd (r : Gpr) (ea : Word) (v : State) : State := synchronised v (v.setReg r ea).advance

theorem pushEnd_precise (r : Gpr) (ea : Word) {v : State} (h : v.pending = []) :
    pushEnd r ea v = { v with gpr := v.gpr.set r ea, iar := v.nia } :=
  (synchronised_precise v _ h).trans (setReg_advance_eq v r ea)

theorem pushFrame_eq_andThen {r : Gpr} {xs : List Slot} {dd : BitVec 13} {s : State} {sp ea : Word} (hsp : s.reg r = sp)
    (hea : sp + stackDisp dd = ea) :
    pushFrame r xs dd s =
      (memWrite .word (sp + 4) (s.lr.setWidth 64) s).andThen fun _ t =>
        (pushSlots xs (sp - 8) { t with edr := sp }).andThen fun _ u =>
          (memWrite .word ea (sp.setWidth 64) u).andThen fun _ => pushEnd r ea := by
  subst hsp hea
  exact pushFrame_eq r xs dd s

/-- A push whose stores before `k` are granted goes on with store `k`. -/
theorem pushFrame_request {r : Gpr} {n k : Nat} {dd : BitVec 13} {s : State} {sp ea : Word} (hsp : s.reg r = sp)
    (hea : sp + stackDisp dd = ea) (hwf : Memory.wf s.mem = true) (hn : n ≤ 10) (hk : k ≤ n + 1)
    (hgrants : ∀ j < k, s.grants true (pushAccess sp ea n j).1 (pushAccess sp ea n j).2) :
    ∃ (m : List Host.Cell) (f : Grant → State → State), Pushed s sp k m ∧ pushFrame r (contextSlots.take n) dd s =
      (request .store (pushAccess sp ea n k).1 (s.sys.dataReply true (pushAccess sp ea n k).1 (pushAccess sp ea n k).2)
        { s with mem := m, edr := if k = 0 then s.edr else sp }).andThen f := by
  rw [pushFrame_eq_andThen hsp hea]
  cases k with
  | zero => exact ⟨s.mem, _, pushed_zero hwf, memWrite_andThen .word (sp + 4) _ s _⟩
  | succ k =>
    have hslots : ∀ j, 1 ≤ j → j ≤ k → s.grants true (sp - BitVec.ofNat 32 (8 * j)) 8 := by
      intro j h1 hj
      have hgrant := hgrants j (by omega)
      rwa [pushAccess, if_neg (by omega), if_pos (by omega)] at hgrant
    obtain ⟨hreply, hdac, hreports⟩ := hgrants 0 (by omega)
    obtain ⟨m, hm, heq⟩ := pushSlots_granted (n := n) hn (by omega) (pushed_one (sp := sp) hwf) hslots
    have hfirst := memWrite_granted .word (sp + 4) (s.lr.setWidth 64) s hreply hdac hreports
    rw [hfirst, andThen_done]
    change ∃ m f, _ ∧ (pushSlots _ _ { s with mem := _, edr := sp }).andThen _ = _
    rw [heq, pushAccess, if_neg (by omega)]
    by_cases hlt : k < n
    · obtain ⟨x, -, hdrop⟩ := contextSlots_take_getElem? hn hlt
      rw [hdrop, pushSlots_cons_andThen, memWrite_andThen, if_pos (by omega)]
      exact ⟨m, _, hm, rfl⟩
    · have hlen : (contextSlots.take n).length ≤ k := (List.length_take_le _ _).trans (by omega)
      rw [List.drop_of_length_le hlen, if_neg (by omega)]
      exact ⟨m, _, hm, memWrite_andThen .word ea _ { s with mem := m, edr := sp } _⟩

/-- A push all of whose stores are granted, with nothing pending. -/
theorem pushFrame_granted {r : Gpr} {n : Nat} {dd : BitVec 13} {s : State} {sp ea : Word} (hsp : s.reg r = sp)
    (hea : sp + stackDisp dd = ea) (hwf : Memory.wf s.mem = true) (hp : s.pending = []) (hn : n ≤ 10)
    (hlr : s.grants true (sp + 4) 4) (hslots : ∀ j, 1 ≤ j → j ≤ n → s.grants true (sp - BitVec.ofNat 32 (8 * j)) 8)
    (hback : s.grants true ea 4) :
    ∃ m, Pushed s sp (n + 1) m ∧ pushFrame r (contextSlots.take n) dd s =
      { s with gpr := s.gpr.set r ea, mem := writeMem .word m ea (sp.setWidth 64), edr := sp, iar := s.nia } := by
  obtain ⟨m, hm, heq⟩ := pushSlots_granted (n := n) hn le_rfl (pushed_one (sp := sp) hwf) hslots
  have hlen : (contextSlots.take n).length ≤ n := List.length_take_le _ _
  obtain ⟨hreply, hdac, hreports⟩ := hlr
  obtain ⟨hreply', hdac', hreports'⟩ := (grants_congr (s := s) (t := { s with mem := m, edr := sp }) rfl true ea 4).2 hback
  have hfirst := memWrite_granted .word (sp + 4) (s.lr.setWidth 64) s hreply hdac hreports
  have hlast := memWrite_granted .word ea (sp.setWidth 64) { s with mem := m, edr := sp } hreply' hdac' hreports'
  refine ⟨m, hm, ?_⟩
  rw [pushFrame_eq_andThen hsp hea, hfirst, andThen_done]
  change (pushSlots _ _ { s with mem := _, edr := sp }).andThen _ = _
  rw [heq, List.drop_of_length_le hlen, pushSlots, andThen_done, hlast, andThen_done]
  exact pushEnd_precise r ea hp

/-- The words of a push, and its back pointer below them. -/
theorem pushed_backPointer {s : State} {sp : Word} {n d : Nat} {m : List Host.Cell} (hm : Pushed s sp (n + 1) m) (hd : n + 1 ≤ d)
    (hlow : d ≤ 4096) :
    FrameWords s sp (n + 1) (writeMem .word m (sp - BitVec.ofNat 32 (8 * d)) (sp.setWidth 64)) ∧
      wordAt (writeMem .word m (sp - BitVec.ofNat 32 (8 * d)) (sp.setWidth 64)) (sp - BitVec.ofNat 32 (8 * d)) = sp ∧
      ∀ b : Word, 4 ≤ (b - (sp + 4)).toNat → 4 ≤ (b - (sp - BitVec.ofNat 32 (8 * d))).toNat →
        8 * n ≤ (b - (sp - BitVec.ofNat 32 (8 * n))).toNat →
          readByte (writeMem .word m (sp - BitVec.ofNat 32 (8 * d)) (sp.setWidth 64)) b = readByte s.mem b := by
  have hstored := writeMem_storedAt .word m (sp - BitVec.ofNat 32 (8 * d)) (sp.setWidth 64) hm.wf
  refine ⟨hm.words.storedAt hstored (by change _ + 4 ≤ _; omega) (by decide) (by omega), ?_, fun b hlr hback hb => ?_⟩
  · rw [wordAt_storedAt_word hstored, dwordLo_setWidth]
  · have hout : ¬ (b - (sp - BitVec.ofNat 32 (8 * d))).toNat < Width.word.bytes := Nat.not_lt.2 hback
    rw [hstored, if_neg hout]
    exact hm.frame b (fun _ => hlr) hb

/-! ### Words of registers -/

theorem FrameWords.reg {s : State} {sp : Word} {k e : Nat} {m : List Host.Cell} {r : Gpr} (h : FrameWords s sp k m)
    (hr : contextOffset r = some e) (hk : slotOf e < k) : wordAt m (sp - BitVec.ofNat 32 e) = s.reg r := by
  obtain ⟨j, d, hslot, hplace, ⟨rfl, rfl⟩ | ⟨rfl, rfl⟩⟩ := contextOffset_eq_some hr
  · exact (h.slots j _ hslot (by omega)).1.trans (dwordHi_dwordOf _ _)
  · exact (h.slots j _ hslot (by omega)).2.trans (dwordLo_dwordOf _ _)

theorem FrameWords.special {s : State} {sp : Word} {k : Nat} {m : List Host.Cell} (h : FrameWords s sp k m) :
    (3 < k → wordAt m (sp - 24) = s.srr0 ∧ wordAt m (sp - 20) = s.srr1) ∧
      (4 < k → wordAt m (sp - 32) = s.xer.value ∧ wordAt m (sp - 28) = s.ctr) ∧
      (10 < k → wordAt m (sp - 80) = s.cr0.value ∧ wordAt m (sp - 76) = s.sprg0) := by
  have hslot {j : Nat} {x : Slot} {hi lo : Word} (hx : contextSlots[j]? = some x) (hv : slotValue x s = dwordOf hi lo)
      (hj : j + 1 < k) :
      wordAt m (sp - BitVec.ofNat 32 (8 * (j + 1))) = hi ∧ wordAt m (sp - BitVec.ofNat 32 (8 * j + 4)) = lo := by
    have hwords := h.slots j x hx hj
    rwa [hv, dwordHi_dwordOf, dwordLo_dwordOf] at hwords
  exact ⟨hslot (j := 2) rfl rfl, hslot (j := 3) rfl rfl, hslot (j := 9) rfl rfl⟩

/-! ### The two instructions -/

theorem stskuForm_eq (ra : Gpr) (dd : BitVec 13) (hra : ra ≠ .r0) : stskuForm ra ra dd = decide (4096 ≤ dd.toNat) := by
  simp [stskuForm, hra, getMsbD_zero_iff]

theorem stcxuForm_eq (ra : Gpr) (dd : BitVec 13) (hra : ra ≠ .r0) :
    stcxuForm ra ra dd = decide (4096 ≤ dd.toNat ∧ dd.toNat ≤ 8181) := by
  have hlt := dd.isLt
  rw [Bool.eq_iff_iff]
  simp only [stcxuForm, Bool.and_eq_true, decide_eq_true_eq, getMsbD_zero_iff, extractLsb'_low_toNat]
  simp only [hra, ne_eq, not_false_eq_true, true_and]
  omega

theorem stskuForm_bounds {ra : Gpr} {dd : BitVec 13} {x : Bool} (h : (x && stskuForm ra ra dd) = true) : 4096 ≤ dd.toNat := by
  obtain ⟨-, hform⟩ := Bool.and_eq_true_iff.1 h
  have hra : ra ≠ .r0 := by
    rintro rfl
    simp [stskuForm] at hform
  rw [stskuForm_eq ra dd hra] at hform
  exact of_decide_eq_true hform

theorem stcxuForm_bounds {ra : Gpr} {dd : BitVec 13} {x : Bool} (h : (x && stcxuForm ra ra dd) = true) : 4096 ≤ dd.toNat := by
  obtain ⟨-, hform⟩ := Bool.and_eq_true_iff.1 h
  have hra : ra ≠ .r0 := by
    rintro rfl
    simp [stcxuForm] at hform
  rw [stcxuForm_eq ra dd hra] at hform
  obtain ⟨hlow, -⟩ := of_decide_eq_true hform
  exact hlow

theorem exec_stsku {s : State} {ra : Gpr} {dd : BitVec 13} (hform : (s.isX && stskuForm ra ra dd) = true)
    (hsp : (s.reg ra).toNat % 8 = 0) :
    exec (.stsku ra ra dd) s = .next (pushFrame ra (contextSlots.take (min (8191 - dd.toNat) 2)) dd s) := by
  have hlen : (~~~dd).toNat = 8191 - dd.toNat := BitVec.toNat_not
  rw [← hlen, ← frameSlots_take]
  exact congrArg Host.Outcome.next (stackForm_aligned hform hsp)

theorem exec_stcxu {s : State} {ra : Gpr} {dd : BitVec 13} (hform : (s.isX && stcxuForm ra ra dd) = true)
    (hsp : (s.reg ra).toNat % 8 = 0) : exec (.stcxu ra ra dd) s = .next (pushFrame ra (contextSlots.take 10) dd s) :=
  congrArg Host.Outcome.next (stackForm_aligned hform hsp)

/-- Settles O33. -/
theorem stackPushResult : Obligations.StackPushResult := by
  intro s ra dd k sp ea hx hra hdd hsp hwf hp hlr hgrant1 hgrant2 hback
  have hlt := dd.isLt
  have hform := form_and_isX hx ((stskuForm_eq ra dd hra).trans (decide_eq_true hdd))
  have hn : min (8191 - dd.toNat) 2 = min (k - 1) 2 := by omega
  have hslots : ∀ j, 1 ≤ j → j ≤ min (k - 1) 2 → s.grants true (sp - BitVec.ofNat 32 (8 * j)) 8 := by
    intro j h1 hj
    obtain rfl | rfl : j = 1 ∨ j = 2 := by omega
    · exact hgrant1 (by omega)
    · exact hgrant2 (by omega)
  obtain ⟨m, hm, heq⟩ := pushFrame_granted rfl (add_stackDisp_negative sp dd hdd) hwf hp (by omega) hlr hslots hback
  obtain ⟨hwords, hpointer, hframe⟩ := pushed_backPointer (d := k) hm (by omega) (by omega)
  refine ⟨_, ?_, hwords.lr (by omega), hpointer, fun h2 => ⟨?_, ?_⟩, fun h3 => ⟨?_, ?_⟩, fun b hb hbe hb1 hb2 => hframe b hb hbe ?_⟩
  · rw [exec_stsku hform hsp, hn, heq]
  · exact hwords.reg (r := .r30) rfl (by change 1 < _; omega)
  · exact hwords.reg (r := .r31) rfl (by change 1 < _; omega)
  · exact hwords.reg (r := .r28) rfl (by change 2 < _; omega)
  · exact hwords.reg (r := .r29) rfl (by change 2 < _; omega)
  · have hxlt := (b - sp).isLt
    have hb1' : 2 ≤ k → 8 ≤ ((b - sp).toNat + 8) % 2 ^ 32 := fun h => by
      rw [← toNat_sub_sub_ofNat]
      exact hb1 h
    have hb2' : 3 ≤ k → 8 ≤ ((b - sp).toNat + 16) % 2 ^ 32 := fun h => by
      rw [← toNat_sub_sub_ofNat]
      exact hb2 h
    change _ ≤ (b - (sp - _)).toNat
    rw [toNat_sub_sub_ofNat]
    omega

/-- Settles O34. -/
theorem contextPushResult : Obligations.ContextPushResult := by
  intro s ra dd k sp ea hx hra hdd hk hsp hwf hp hlr hslots hback
  have hlt := dd.isLt
  have hform := form_and_isX hx ((stcxuForm_eq ra dd hra).trans (decide_eq_true ⟨hdd, by omega⟩))
  obtain ⟨m, hm, heq⟩ := pushFrame_granted (n := 10) rfl (add_stackDisp_negative sp dd hdd) hwf hp le_rfl hlr hslots hback
  obtain ⟨hwords, hpointer, hframe⟩ := pushed_backPointer (d := k) hm (by omega) (by omega)
  obtain ⟨hsrr, hxer, hcr⟩ := hwords.special
  obtain ⟨hsrr0, hsrr1⟩ := hsrr (by omega)
  obtain ⟨hxer, hctr⟩ := hxer (by omega)
  obtain ⟨hcr, hsprg0⟩ := hcr (by omega)
  refine ⟨_, ?_, hwords.lr (by omega), hpointer, fun r j hr => ?_, hsrr0, hsrr1, hxer, hctr, hcr, hsprg0, fun b hb hbe hb80 =>
    hframe b hb hbe hb80⟩
  · rw [exec_stcxu hform hsp, heq]
  · obtain ⟨i, _, hslot, hplace, -⟩ := contextOffset_eq_some hr
    have hi : i < 10 := (List.getElem?_eq_some_iff.1 hslot).1
    exact hwords.reg hr (by omega)

end Sys2Proof.Machine
end

section
/-! PROOFS. `stsku` and `stcxu` stopped at one of their stores, and their report of imprecise errors (47_stack.md R405, R407, R408, R410). -/

namespace Sys2Proof.Machine

/-! ### Stores in imprecise mode -/

/-- What stores in imprecise mode do to `s`, those at the addresses in `bad` with an error: they may write any byte but those in `kept`. -/
structure Tracks (s : State) (bad kept : Word → Prop) (t : State) : Prop where
  shape : t = { s with mem := t.mem, edr := t.edr, pending := t.pending }
  wf : Memory.wf t.mem = true
  addresses : ∀ x ∈ t.pending, x ∈ s.pending ∨ bad x
  bytes : ∀ b, kept b → readByte t.mem b = readByte s.mem b

/-- The errors pending after such stores are reported. -/
def Reported (s : State) (bad kept : Word → Prop) (u : State) : Prop :=
  ∃ (t : State) (e : Word) (f : Nat), u = t.errorsReported e f ∧ e ∈ t.pending ∧ Tracks s bad kept t

/-- A store that no compare stops, that is done or has an error, and that writes no byte of `kept`. -/
structure Storable (s : State) (bad kept : Word → Prop) (w : Width) (a : Word) : Prop where
  uncompared : s.uncompared true a
  reply : s.sys.dataReply true a w.bytes = .ok ∨ s.sys.dataReply true a w.bytes = .error
  bad_of_error : s.sys.dataReply true a w.bytes = .error → bad a
  outside : ∀ b, kept b → w.bytes ≤ (b - a).toNat

section
variable {s : State} {bad kept : Word → Prop}

theorem tracks_refl (h : Memory.wf s.mem = true) : Tracks s bad kept s := ⟨rfl, h, fun _ => .inl, fun _ _ => rfl⟩

theorem Tracks.withEdr {t : State} (h : Tracks s bad kept t) (e : Word) : Tracks s bad kept { t with edr := e } := by
  obtain ⟨hshape, hwf, haddresses, hbytes⟩ := h
  refine ⟨?_, hwf, haddresses, hbytes⟩
  rw [hshape]

theorem Tracks.withPending {t : State} {a : Word} (h : Tracks s bad kept t) (ha : bad a) :
    Tracks s bad kept { t with pending := t.pending ++ [a] } := by
  obtain ⟨hshape, hwf, haddresses, hbytes⟩ := h
  refine ⟨?_, hwf, fun x hx => ?_, hbytes⟩
  · rw [hshape]
  · obtain hx | hx := List.mem_append.1 hx
    · exact haddresses x hx
    · exact .inr (List.mem_singleton.1 hx ▸ ha)

theorem Tracks.withStored {t : State} {w : Width} {a : Word} (v : Dword) (h : Tracks s bad kept t)
    (hout : ∀ b, kept b → w.bytes ≤ (b - a).toNat) : Tracks s bad kept { t with mem := writeMem w t.mem a v } := by
  obtain ⟨hshape, hwf, haddresses, hbytes⟩ := h
  refine ⟨?_, writeMem_canonical w t.mem a v hwf, haddresses, fun b hb => ?_⟩
  · rw [hshape]
  · rw [writeMem_storedAt w t.mem a v hwf b, if_neg (Nat.not_lt.2 (hout b hb)), hbytes b hb]

theorem Tracks.sys {t : State} (h : Tracks s bad kept t) : t.sys = s.sys := by rw [h.shape]

theorem Tracks.impreciseMode {t : State} (h : Tracks s bad kept t) : t.impreciseMode = s.impreciseMode := by
  rw [h.shape]
  rfl

theorem Tracks.uncompared {t : State} {store : Bool} {a : Word} (h : Tracks s bad kept t) (hc : s.uncompared store a) :
    t.uncompared store a := by
  rw [h.shape]
  exact hc

/-- Where errors are pending, their report ends the stores. -/
theorem Tracks.reported {t : State} (h : Tracks s bad kept t) (hp : t.pending ≠ []) : Reported s bad kept (reportImprecise t) := by
  obtain ⟨e, hmem, f, heq⟩ := reportImprecise_eq t hp
  exact ⟨t, e, f, heq, hmem, h⟩

/-- One store: errors are reported at it, or it is done or leaves its error pending, and the instruction goes on. -/
theorem memWrite_reported {t : State} {w : Width} {a : Word} {v : Dword} {f : State → State} (himp : s.impreciseMode = true)
    (ht : Tracks s bad kept t) (hst : Storable s bad kept w a)
    (hf : ∀ u, Tracks s bad kept u → (t.pending ≠ [] ∨ s.sys.dataReply true a w.bytes = .error → u.pending ≠ []) →
      Reported s bad kept (f u)) :
    Reported s bad kept ((memWrite w a v t).andThen fun _ => f) := by
  have hc : t.uncompared Request.store.dac a := ht.uncompared hst.uncompared
  rw [memWrite_andThen, ht.sys]
  cases hr : t.reportsNow with
  | true =>
    rw [request_reportsNow hc hr]
    exact ht.reported (reportsNow_pending hr)
  | false =>
    obtain hreply | hreply := hst.reply
    · rw [hreply, request_granted .store a t hc hr]
      exact hf _ (ht.withStored v hst.outside) fun hdue => hdue.resolve_right (by simp [hreply])
    · rw [hreply, request_error hc hr, dataError_deferred rfl (ht.impreciseMode.trans himp)]
      exact hf _ (ht.withPending (hst.bad_of_error hreply)) fun _ => by simp

theorem sub_eight_sub_ofNat (a : Word) (j : Nat) : a - 8 - BitVec.ofNat 32 (8 * j) = a - BitVec.ofNat 32 (8 * (j + 1)) := by
  rw [Nat.mul_succ, BitVec.ofNat_add, ← sub_sub, sub_right_comm]
  rfl

/-- The stores of the doublewords, from an address down. -/
theorem pushSlots_reported {xs : List Slot} {a : Word} {t : State} {f : State → State} (himp : s.impreciseMode = true)
    (ht : Tracks s bad kept t) (hst : ∀ j < xs.length, Storable s bad kept .dword (a - BitVec.ofNat 32 (8 * j)))
    (hf : ∀ u, Tracks s bad kept u →
      ((t.pending ≠ [] ∨ ∃ j < xs.length, s.sys.dataReply true (a - BitVec.ofNat 32 (8 * j)) 8 = .error) → u.pending ≠ []) →
        Reported s bad kept (f u)) :
    Reported s bad kept ((pushSlots xs a t).andThen fun _ => f) := by
  induction xs generalizing a t with
  | nil => exact hf t ht fun hdue => hdue.resolve_right (by simp)
  | cons x xs ih =>
    have hnext := sub_eight_sub_ofNat a
    have hfirst : a - BitVec.ofNat 32 (8 * 0) = a := BitVec.sub_zero a
    rw [pushSlots_cons_andThen]
    refine memWrite_reported himp ht (hfirst ▸ hst 0 (Nat.succ_pos _)) fun u hu hdue => ?_
    refine ih hu (fun j hj => hnext j ▸ hst (j + 1) (Nat.succ_lt_succ hj)) fun v hv hlater => hf v hv fun herror => hlater ?_
    obtain hp | ⟨j, hj, herror⟩ := herror
    · exact .inl (hdue (.inl hp))
    · cases j with
      | zero => exact .inl (hdue (.inr (hfirst ▸ herror)))
      | succ j => exact .inr ⟨j, Nat.lt_of_succ_lt_succ hj, (hnext j).symm ▸ herror⟩

end

/-- The bytes that a push writes nowhere. -/
def OutsidePush (sp ea : Word) (n : Nat) (b : Word) : Prop :=
  4 ≤ (b - (sp + 4)).toNat ∧ 8 * n ≤ (b - (sp - BitVec.ofNat 32 (8 * n))).toNat ∧ 4 ≤ (b - ea).toNat

/-- The addresses of the stores of a push that have an error. -/
def PushError (s : State) (sp ea : Word) (n : Nat) (x : Word) : Prop :=
  ∃ k ≤ n + 1, s.sys.dataReply true (pushAccess sp ea n k).1 (pushAccess sp ea n k).2 = .error ∧ x = (pushAccess sp ea n k).1

theorem pushAccess_lr (sp ea : Word) (n : Nat) : pushAccess sp ea n 0 = (sp + 4, 4) := if_pos rfl

theorem pushAccess_slot (sp ea : Word) {n j : Nat} (hj : j < n) :
    pushAccess sp ea n (j + 1) = (sp - BitVec.ofNat 32 (8 * (j + 1)), 8) := by
  rw [pushAccess, if_neg (Nat.succ_ne_zero j), if_pos (Nat.succ_le_of_lt hj)]

theorem pushAccess_back (sp ea : Word) (n : Nat) : pushAccess sp ea n (n + 1) = (ea, 4) := by
  rw [pushAccess, if_neg (Nat.succ_ne_zero n), if_neg (Nat.not_succ_le_self n)]

/-- Store `k` of a push, where no compare stops it and it is done or has an error. -/
theorem storable_pushAccess {s : State} {sp ea : Word} {n k : Nat} {w : Width} {a : Word} (hk : k ≤ n + 1)
    (ha : pushAccess sp ea n k = (a, w.bytes))
    (h : s.uncompared true (pushAccess sp ea n k).1 ∧
      (s.sys.dataReply true (pushAccess sp ea n k).1 (pushAccess sp ea n k).2 = .ok ∨
        s.sys.dataReply true (pushAccess sp ea n k).1 (pushAccess sp ea n k).2 = .error))
    (hout : ∀ b, OutsidePush sp ea n b → w.bytes ≤ (b - a).toNat) :
    Storable s (PushError s sp ea n) (OutsidePush sp ea n) w a := by
  obtain ⟨hc, hreply⟩ := h
  rw [ha] at hc hreply
  exact ⟨hc, hreply, fun herror => ⟨k, hk, by rw [ha]; exact herror, by rw [ha]⟩, hout⟩

/-- A push in imprecise mode, with an error pending or one of its own, reports it before it completes (47_stack.md R410). -/
theorem pushFrame_reported {r : Gpr} {n : Nat} {dd : BitVec 13} {s : State} {sp ea : Word} (hsp : s.reg r = sp)
    (hea : sp + stackDisp dd = ea) (hwf : Memory.wf s.mem = true) (hn : n ≤ 10) (himp : s.impreciseMode = true)
    (hstores : ∀ k ≤ n + 1, s.uncompared true (pushAccess sp ea n k).1 ∧
      (s.sys.dataReply true (pushAccess sp ea n k).1 (pushAccess sp ea n k).2 = .ok ∨
        s.sys.dataReply true (pushAccess sp ea n k).1 (pushAccess sp ea n k).2 = .error))
    (herror : s.pending ≠ [] ∨
      ∃ k ≤ n + 1, s.sys.dataReply true (pushAccess sp ea n k).1 (pushAccess sp ea n k).2 = .error) :
    Reported s (PushError s sp ea n) (OutsidePush sp ea n) (pushFrame r (contextSlots.take n) dd s) := by
  have hlen : (contextSlots.take n).length = n := by
    rw [List.length_take, show contextSlots.length = 10 from rfl]
    omega
  have hdown := sub_eight_sub_ofNat sp
  have hlr := storable_pushAccess (w := .word) (Nat.zero_le _) (pushAccess_lr sp ea n) (hstores 0 (Nat.zero_le _))
    fun b hb => hb.1
  have hslot (j : Nat) (hj : j < n) := storable_pushAccess (w := .dword) (by omega) (pushAccess_slot sp ea hj)
    (hstores (j + 1) (by omega)) fun b hb => by
      obtain ⟨-, hb, -⟩ := hb
      have hlt := (b - sp).isLt
      rw [toNat_sub_sub_ofNat] at hb ⊢
      change 8 ≤ _
      omega
  have hback := storable_pushAccess (w := .word) le_rfl (pushAccess_back sp ea n) (hstores (n + 1) le_rfl) fun b hb => hb.2.2
  rw [pushFrame_eq_andThen hsp hea]
  refine memWrite_reported himp (tracks_refl hwf) hlr fun t ht hdueLr => ?_
  refine pushSlots_reported himp (ht.withEdr sp) (fun j hj => hdown j ▸ hslot j (hlen ▸ hj)) fun u hu hdueSlots => ?_
  refine memWrite_reported himp hu hback fun v hv hdueBack => ?_
  have hpending : v.pending ≠ [] := by
    obtain hp | ⟨k, hk, herror⟩ := herror
    · exact hdueBack (.inl (hdueSlots (.inl (hdueLr (.inl hp)))))
    · cases k with
      | zero =>
        rw [pushAccess_lr] at herror
        exact hdueBack (.inl (hdueSlots (.inl (hdueLr (.inr herror)))))
      | succ j =>
        by_cases hj : j < n
        · rw [pushAccess_slot sp ea hj] at herror
          exact hdueBack (.inl (hdueSlots (.inr ⟨j, hlen.symm ▸ hj, (hdown j).symm ▸ herror⟩)))
        · obtain rfl : j = n := by omega
          rw [pushAccess_back] at herror
          exact hdueBack (.inr herror)
  rw [pushEnd, synchronised_pending _ _ hpending]
  exact hv.reported hpending

theorem request_andThen_halt {q : Request} {a : Word} {reply : DataReply} {t : State} (hq : q.dac = true) (hrip : t.xsr.rip = false)
    (h : dacMatch true a t = true) (f : Grant → State → State) :
    (request q a reply t).andThen f = t.debugHalted fun x => { x with wdac := true } := by
  rw [request_compare q a reply t hrip (hq ▸ h), andThen_taken, hq]
  exact debugHalt_data true t hrip

theorem stopsWith_store {a : Word} {reply : DataReply} {t : State} (hc : t.uncompared true a) (f : Grant → State → State) :
    t.stopsWith true true a reply (.next ((request .store a reply t).andThen f)) :=
  stopsWith_request (q := .store) hc f

/-- A push whose stores before `k` are done stops at store `k` where a compare matches or the reply rejects it. -/
theorem pushFrame_stops {r : Gpr} {n k : Nat} {dd : BitVec 13} {s : State} {sp ea : Word} (hsp : s.reg r = sp)
    (hea : sp + stackDisp dd = ea) (hwf : Memory.wf s.mem = true) (hn : n ≤ 10) (hk : k ≤ n + 1)
    (hgrants : ∀ j < k, s.grants true (pushAccess sp ea n j).1 (pushAccess sp ea n j).2) :
    ∃ (m : List Host.Cell) (t : State), Pushed s sp k m ∧ t = { s with mem := m, edr := if k = 0 then s.edr else sp } ∧
      (s.xsr.rip = false → dacMatch true (pushAccess sp ea n k).1 s = true →
        pushFrame r (contextSlots.take n) dd s = t.debugHalted fun x => { x with wdac := true }) ∧
      (s.uncompared true (pushAccess sp ea n k).1 →
        t.stopsWith true true (pushAccess sp ea n k).1
          (s.sys.dataReply true (pushAccess sp ea n k).1 (pushAccess sp ea n k).2)
          (.next (pushFrame r (contextSlots.take n) dd s))) := by
  obtain ⟨m, f, hpushed, hrequest⟩ := pushFrame_request hsp hea hwf hn hk hgrants
  refine ⟨m, _, hpushed, rfl, fun hrip hdac => ?_, fun hc => ?_⟩
  all_goals
    rw [hrequest]
    generalize pushAccess sp ea n k = access at *
    have hview : ({ s with mem := m, edr := if k = 0 then s.edr else sp } : State).accessView = s.accessView := rfl
    generalize ({ s with mem := m, edr := if k = 0 then s.edr else sp } : State) = t at *
    obtain ⟨-, hsameRip, hsame, -⟩ := accessView_congr hview true access.1
  · exact request_andThen_halt rfl (hsameRip.trans hrip) (hsame.trans hdac) f
  · exact stopsWith_store ((uncompared_congr hview true access.1).2 hc) f

/-- The two pushes, and how many doublewords they store. -/
theorem exec_push {s : State} {ra : Gpr} {dd : BitVec 13} {i : Instr} {n : Nat}
    (hmem : (i, n) ∈ [(Instr.stsku ra ra dd, min (8191 - dd.toNat) 2), (.stcxu ra ra dd, 10)])
    (hform : i.wellFormed s.cfg.variant = true) (hsp : (s.reg ra).toNat % 8 = 0) :
    n ≤ 10 ∧ s.reg ra + stackDisp dd = s.reg ra - BitVec.ofNat 32 (8 * (8192 - dd.toNat)) ∧
      exec i s = .next (pushFrame ra (contextSlots.take n) dd s) := by
  simp only [List.mem_cons, List.not_mem_nil, or_false, Prod.mk.injEq] at hmem
  rcases hmem with ⟨rfl, rfl⟩ | ⟨rfl, rfl⟩
  · exact ⟨by omega, add_stackDisp_negative _ dd (stskuForm_bounds hform), exec_stsku hform hsp⟩
  · exact ⟨le_rfl, add_stackDisp_negative _ dd (stcxuForm_bounds hform), exec_stcxu hform hsp⟩

/-- Settles O37: store `k` is a request in the state that the stores before it leave; in imprecise mode the stores are followed up to the
report. -/
theorem stackPushStops : Obligations.StackPushStops := by
  intro s ra dd i n hmem hform hsp hwf
  obtain ⟨hn, hea, hexec⟩ := exec_push hmem hform hsp
  rw [hexec]
  refine ⟨fun k hk hgrants => ?_, fun himp hstores herror => ?_⟩
  · obtain ⟨m, _, hpushed, rfl, hhalt, hstop⟩ := pushFrame_stops rfl hea hwf hn hk hgrants
    obtain ⟨hsrr, hxer, hcr⟩ := hpushed.words.special
    exact ⟨m, hpushed.words.lr, fun r d hr hd => hpushed.words.reg hr hd, hsrr, hxer, hcr, hpushed.frame,
      fun hrip hdac => congrArg Host.Outcome.next (hhalt hrip hdac), hstop⟩
  · obtain ⟨t, e, f, heq, he, ht⟩ := pushFrame_reported rfl hea hwf hn himp hstores herror
    exact ⟨t, e, f, congrArg _ heq, he, ht.shape, ht.addresses, fun b hlr hslots hback => ht.bytes b ⟨hlr, hslots, hback⟩⟩

end Sys2Proof.Machine
end

section
/-! PROOFS. The moves of CR, MSR and the SPRs (49_system.md): images of registers, the write rules, DBCR[RST]. -/

namespace Sys2Proof.Machine

/-! ### CR and MSR -/

theorem bitAt_and (v w : Word) (i : Nat) : bitAt (v &&& w) i = (bitAt v i && bitAt w i) := BitVec.getMsbD_and

theorem cr0_value_fields (c : Cr0) :
    c.value.extractLsb' 28 4 = ofBool c.lt ++ ofBool c.gt ++ ofBool c.eq ++ ofBool c.so ∧ c.value.extractLsb' 0 28 = 0 := by
  obtain ⟨lt, gt, eq, so⟩ := c
  revert lt gt eq so
  decide

/-- The bits of the MSR that are stored (10_state.md R48). -/
theorem bitAt_msrMask : ∀ i < 32, bitAt msrMask i = !decide (i ∈ [0, 17, 18, 22]) := by decide

/-- Settles O40. -/
theorem statusMoveResults : Obligations.StatusMoveResults := by
  intro s r e
  obtain ⟨hflags, hrest⟩ := cr0_value_fields s.cr0
  refine ⟨⟨s.cr0.value, congrArg Host.Outcome.next (setReg_advance_eq s r _), hflags, hrest⟩,
    congrArg Host.Outcome.next (advance_eq_nia _), fun hp => ⟨?_, s.reg r &&& msrMask, ?_, fun i hi => ?_⟩,
    ⟨setBit s.msr 16 (bitAt (s.reg r) 16), congrArg Host.Outcome.next (advance_eq_nia _), fun i hi => ?_⟩,
    ⟨setBit s.msr 16 e, congrArg Host.Outcome.next (advance_eq_nia _), fun i hi => ?_⟩⟩
  · exact congrArg Host.Outcome.next ((contextSync_done s _ hp).trans (setReg_advance_eq s r s.msr))
  · exact congrArg Host.Outcome.next ((contextSync_done s _ hp).trans (advance_eq_nia _))
  · rw [bitAt_and, bitAt_msrMask i hi]
  · exact bitAt_setBit _ 16 i _ (by decide) hi
  · exact bitAt_setBit _ 16 i _ (by decide) hi

/-! ### `mfspr` -/

theorem exec_mfspr_some {s : State} {rt : Gpr} {n : BitVec 10} {v w : Word} (h : readSpr n s = some v) (hw : v = w) :
    exec (.mfspr rt n) s = .next { s with gpr := s.gpr.set rt w, iar := s.nia } := by
  subst hw
  change Host.Outcome.next _ = _
  rw [h]
  exact congrArg Host.Outcome.next (setReg_advance_eq s rt v)

theorem xer_value_eq (x : Xer) : x.value = BitVec.ofNat 32 (x.so.toNat * 2 ^ 31 + x.ov.toNat * 2 ^ 30 + x.ca.toNat * 2 ^ 29) := by
  obtain ⟨so, ov, ca⟩ := x
  revert so ov ca
  decide

theorem place_ofBool_ep (b : Bool) : place (ofBool b) 21 = if b then 0x400 else 0 := by
  revert b
  decide

theorem setWidth_shiftLeft_nine (v : BitVec 23) : v.setWidth 32 <<< 9 = BitVec.ofNat 32 (v.toNat * 512) := by
  refine BitVec.eq_of_toNat_eq ?_
  have hlt := v.isLt
  rw [BitVec.toNat_shiftLeft, BitVec.toNat_setWidth, BitVec.toNat_ofNat, Nat.shiftLeft_eq]
  omega

theorem pvrValue_eq (c : Config) :
    pvrValue c = BitVec.ofNat 32 ((if c.variant = .ppe42 then 0x42000000 else 0x42100000) + c.pvrIsvi.toNat) := by
  have hlow : place c.pvrIsvi 12 = c.pvrIsvi.setWidth 32 := BitVec.shiftLeft_zero _
  have hadd (w : Word) (hw : w &&& place (BitVec.allOnes 20) 12 = 0) :
      w ||| c.pvrIsvi.setWidth 32 = w + c.pvrIsvi.setWidth 32 := by
    rw [← BitVec.add_eq_or_of_and_eq_zero]
    rw [← hlow, ← place_and_ones c.pvrIsvi 12, ← BitVec.and_assoc, BitVec.and_comm w, BitVec.and_assoc, hw]
    exact BitVec.and_zero
  rw [pvrValue, hlow]
  cases c.variant with
  | ppe42 =>
    rw [hadd _ (by decide), if_pos rfl, BitVec.ofNat_add, BitVec.ofNat_toNat]
    rfl
  | ppe42x =>
    rw [hadd _ (by decide), if_neg (by decide), BitVec.ofNat_add, BitVec.ofNat_toNat]
    rfl

/-- Settles O41. -/
theorem sprReadResults : Obligations.SprReadResults := by
  intro s rt k reads pending
  have hep : s.ep = pending := by
    simp only [State.ep, State.decPending, State.fitPending, State.wdtPending, pending]
    ac_rfl
  have hisr : s.isrValue = s.isr ||| if pending then 0x400 else 0 := by rw [State.isrValue, place_ofBool_ep, hep]
  refine ⟨exec_mfspr_some rfl (xer_value_eq s.xer), exec_mfspr_some rfl rfl, exec_mfspr_some rfl rfl, exec_mfspr_some rfl rfl,
    exec_mfspr_some rfl rfl, exec_mfspr_some rfl rfl, exec_mfspr_some rfl rfl, exec_mfspr_some rfl hisr,
    exec_mfspr_some rfl (setWidth_shiftLeft_nine _), exec_mfspr_some rfl rfl,
    exec_mfspr_some rfl (BitVec.ofNat_toNat _ _).symm, exec_mfspr_some rfl (pvrValue_eq s.cfg), exec_mfspr_some rfl rfl,
    exec_mfspr_some rfl rfl, exec_mfspr_some rfl rfl, exec_mfspr_some rfl rfl, fun hk hp => ?_⟩
  have hnone : readSpr k s = none := readSpr_none k s (Bool.eq_false_iff.2 fun h => hk (List.contains_iff_mem.1 h))
  rw [← illegal_eq s hp]
  change Host.Outcome.next _ = _
  rw [hnone]

/-! ### `mtspr` -/

theorem exec_mtspr_some {s t u : State} {n : BitVec 10} {rs : Gpr} (h : writeSpr n (s.reg rs) s = some t) (hu : t.advance = u) :
    exec (.mtspr n rs) s = .next u := by
  change Host.Outcome.next _ = _
  rw [h]
  exact congrArg Host.Outcome.next hu

theorem tcrMask_eq (v : Variant) : tcrMask v = if v = .ppe42 then 0xFFC00000 else 0xFFE00000 := by cases v <;> rfl

theorem dbcrMask_eq (v : Variant) : dbcrMask v = if v = .ppe42 then 0x018C0000 else 0x018C00C7 := by cases v <;> rfl

/-- A bit is set by the word of that bit. -/
theorem setBit_true_eq_or (w : Word) {m : Word} {k : Nat} (hk : k < 32) (hbit : ∀ i < 32, bitAt m i = decide (i = k)) :
    setBit w k true = w ||| m := by
  refine word_ext fun i hi => ?_
  rw [bitAt_setBit _ _ _ _ hk hi, bitAt_or, hbit i hi]
  by_cases h : i = k <;> simp [h]

theorem setBit_dis (w : Word) : setBit w 4 true = w ||| 0x08000000 := setBit_true_eq_or w (by decide) (by decide)

theorem writeDec_eq (v : Word) (s : State) : writeDec v s =
    { s with dec := v, tsr := if bitAt s.dec 0 = false ∧ bitAt v 0 = true then s.tsr ||| 0x08000000 else s.tsr } := by
  rw [writeDec, setBit_dis]
  simp only [Bool.and_eq_true, Bool.not_eq_true']

/-- What a write of DBCR does besides the fields, by DBCR[RST] (10_state.md R56). -/
theorem writeDbcr_eq (v : Word) (s : State) {t : State} (ht : t = { s with dbcr := v &&& dbcrMask s.cfg.variant }) :
    (bits v 2 2 = 0 → writeDbcr v s = t) ∧ (bits v 2 2 = 1 → writeDbcr v s = beginReset .soft false t) ∧
      (bits v 2 2 = 2 → writeDbcr v s = beginReset .hard false t) ∧
      (bits v 2 2 = 3 → writeDbcr v s = raiseHalt 5 { t with out := { t.out with error3 := true } }) := by
  subst ht
  unfold writeDbcr
  refine ⟨?_, ?_, ?_, ?_⟩
  all_goals
    intro h
    rw [h]
    rfl

/-- Settles O42. -/
theorem sprWriteResults : Obligations.SprWriteResults := by
  intro s rs v writes
  have hadvance (t : State) (h : t.nia = s.nia) : t.advance = { t with iar := s.nia } := (advance_eq_nia t).trans (by rw [h])
  have hwrite {n : BitVec 10} {t u : State} (h : writeSpr n v s = some t) (hu : t = u) (hnia : u.nia = s.nia) : writes n u :=
    exec_mtspr_some h (hu ▸ hadvance u hnia)
  refine ⟨hwrite rfl rfl rfl, hwrite rfl rfl rfl, hwrite rfl rfl rfl, hwrite rfl (writeDec_eq v s) rfl, hwrite rfl ?_ rfl,
    hwrite rfl rfl rfl, hwrite rfl rfl rfl, hwrite rfl rfl rfl, hwrite rfl rfl rfl, hwrite rfl rfl rfl, hwrite rfl rfl rfl,
    hwrite rfl ?_ rfl, fun hrst => hwrite rfl ?_ rfl⟩
  · rw [wordAlign_eq_and_not]
  · rw [tcrMask_eq]
  · rw [← dbcrMask_eq]
    exact (writeDbcr_eq v s rfl).1 hrst

theorem beginReset_none (k : ResetKind) (level : Bool) {s : State} (h : s.resetting = none) :
    beginReset k level s = { s with isr := setField s.isr 16 s.sms, resetting := some ⟨k, level, false⟩ } := by
  simp [beginReset, h]

/-- Settles O43. -/
theorem debugControlResetResults : Obligations.DebugControlResetResults := by
  intro s rs v t
  obtain ⟨-, hsoft, hhard, hhalt⟩ := writeDbcr_eq v s rfl
  refine ⟨fun h => ?_, fun h hr => ?_, fun h hr => ?_⟩
  · exact exec_mtspr_some (congrArg some (hhalt h)) (advance_eq_nia _)
  · exact exec_mtspr_some (congrArg some ((hsoft h).trans (beginReset_none .soft false hr))) (advance_eq_nia _)
  · exact exec_mtspr_some (congrArg some ((hhard h).trans (beginReset_none .hard false hr))) (advance_eq_nia _)

end Sys2Proof.Machine
end

section
/-! PROOFS. The timers (61_timers.md): one cycle of the three facilities, and the watchdog event. -/

namespace Sys2Proof.Machine

/-! ### The conditions of a cycle -/

theorem timersFrozen_iff (s : State) : s.timersFrozen = true ↔
    s.xsr.hcp = true ∧ (s.xsr.trh = false ∨ (s.cfg.variant = .ppe42x ∧ bitAt s.dbcr 31 = true ∧ 1 < s.xsr.hc.toNat)) := by
  simp only [State.timersFrozen, State.isX, Bool.and_eq_true, Bool.or_eq_true, Bool.not_eq_true', decide_eq_true_eq, and_assoc]

theorem statusFrozen_iff (s : State) :
    s.statusFrozen = true ↔ s.cfg.variant = .ppe42x ∧ bitAt s.dbcr 30 = true ∧ 1 < s.xsr.hc.toNat := by
  simp only [State.statusFrozen, State.isX, Bool.and_eq_true, decide_eq_true_eq, and_assoc]

theorem updateTsr_frozen {s : State} (f : Word → Word) (h : s.statusFrozen = true) : updateTsr f s = s := if_pos h

theorem updateTsr_counting {s : State} (f : Word → Word) (h : s.statusFrozen = false) :
    updateTsr f s = { s with tsr := f s.tsr } := if_neg (Bool.eq_false_iff.1 h)

theorem setBit_fis (w : Word) : setBit w 5 true = w ||| 0x04000000 := setBit_true_eq_or w (by decide) (by decide)

/-- Counting down, bit 0 goes from 0 to 1 at 0 alone. -/
theorem dec_underflows_iff (d : Word) : (bitAt d 0 = false ∧ bitAt (d - 1) 0 = true) ↔ d = 0 := by
  rw [bitAt_zero_eq_msb, bitAt_zero_eq_msb, BitVec.msb_eq_false_iff_two_mul_lt, BitVec.msb_eq_true_iff_two_mul_ge]
  refine ⟨fun ⟨hlow, hhigh⟩ => BitVec.eq_of_toNat_eq ?_, fun h => ?_⟩
  · rw [BitVec.toNat_sub] at hhigh
    have hlt := d.isLt
    have hone : (1 : Word).toNat = 1 := rfl
    have hzero : (0 : Word).toNat = 0 := rfl
    omega
  · subst h
    decide

theorem decrement_frozen {s : State} (h : s.statusFrozen = true) : decrement s = { s with dec := s.dec - 1 } := by
  have hfrozen : State.statusFrozen { s with dec := s.dec - 1 } = true := h
  rw [decrement, updateTsr_frozen _ hfrozen, ite_self]

theorem decrement_counting {s : State} (h : s.statusFrozen = false) :
    decrement s = { s with dec := s.dec - 1, tsr := s.tsr ||| if s.dec = 0 then 0x08000000 else 0 } := by
  have hcounting : State.statusFrozen { s with dec := s.dec - 1 } = false := h
  have hunderflow := dec_underflows_iff s.dec
  rw [decrement, updateTsr_counting _ hcounting, setBit_dis]
  by_cases hzero : s.dec = 0
  · rw [if_pos (by simpa using hunderflow.2 hzero), if_pos hzero]
  · rw [if_neg (by simpa using fun hbit => hzero ∘ hunderflow.1 ∘ And.intro hbit), if_neg hzero]
    exact congrArg (fun w => { s with dec := s.dec - 1, tsr := w }) BitVec.or_zero.symm

/-- The decrementer and the fixed interval timer, with the status frozen. -/
theorem timerCycle_statusFrozen {s : State} (timer : BitVec 4) (decTimer : Bool) (hf : ¬ s.timersFrozen = true)
    (h : s.statusFrozen = true) {t : State} (ht : t = { s with dec := if decCounts timer decTimer s then s.dec - 1 else s.dec }) :
    timerCycle timer decTimer s = if timer.getMsbD (bits s.tcr 0 2).toNat then watchdogEvent t else t := by
  have hdec : (if decCounts timer decTimer s then decrement s else s) = t := by
    subst ht
    cases decCounts timer decTimer s
    · rfl
    · exact decrement_frozen h
  have hfrozen : t.statusFrozen = true := by
    subst ht
    exact h
  simp only [timerCycle, if_neg hf, hdec, updateTsr_frozen _ hfrozen, ite_self]
  rfl

/-- The decrementer and the fixed interval timer, with the status counting. -/
theorem timerCycle_counting {s : State} (timer : BitVec 4) (decTimer : Bool) (hf : ¬ s.timersFrozen = true)
    (h : s.statusFrozen = false) {t : State}
    (ht : t = { s with
      dec := if decCounts timer decTimer s then s.dec - 1 else s.dec
      tsr := s.tsr ||| (if decCounts timer decTimer s ∧ s.dec = 0 then 0x08000000 else 0) |||
        (if timer.getMsbD (bits s.tcr 6 2).toNat then 0x04000000 else 0) }) :
    timerCycle timer decTimer s = if timer.getMsbD (bits s.tcr 0 2).toNat then watchdogEvent t else t := by
  obtain ⟨u, hu⟩ : ∃ u : State, u = { s with
      dec := if decCounts timer decTimer s then s.dec - 1 else s.dec
      tsr := s.tsr ||| if decCounts timer decTimer s ∧ s.dec = 0 then 0x08000000 else 0 } := ⟨_, rfl⟩
  have hdec : (if decCounts timer decTimer s then decrement s else s) = u := by
    subst hu
    cases decCounts timer decTimer s
    · simp
    · simpa using decrement_counting h
  have hcounting : u.statusFrozen = false := by
    subst hu
    exact h
  have hfit : (if timerInput timer (bits s.tcr 6 2).toNat then updateTsr (fun w => setBit w 5 true) u else u) = t := by
    subst ht
    rw [updateTsr_counting _ hcounting, setBit_fis, timerInput, hu]
    cases timer.getMsbD (bits s.tcr 6 2).toNat <;> simp
  simp only [timerCycle, if_neg hf, hdec]
  rw [hfit]
  rfl

/-- Settles O52. -/
theorem timerCycleResults : Obligations.TimerCycleResults := by
  intro s timer decTimer frozen statusFrozen counts watchdog t
  refine ⟨fun h => if_pos ((timersFrozen_iff s).2 h), fun hf h => ?_, fun hf h => ?_⟩
  · exact timerCycle_statusFrozen timer decTimer (mt (timersFrozen_iff s).1 hf) ((statusFrozen_iff s).2 h) rfl
  · exact timerCycle_counting timer decTimer (mt (timersFrozen_iff s).1 hf)
      (Bool.eq_false_iff.2 (mt (statusFrozen_iff s).1 h)) rfl

/-! ### The watchdog -/

/-- A hardware update of the TSR, in the terms of the statements. -/
theorem updateTsr_eq (f : Word → Word) (s : State) :
    updateTsr f s =
      if decide (s.cfg.variant = .ppe42x ∧ bitAt s.dbcr 30 = true ∧ 1 < s.xsr.hc.toNat) then s else { s with tsr := f s.tsr } := by
  have hfrozen : s.statusFrozen = decide (s.cfg.variant = .ppe42x ∧ bitAt s.dbcr 30 = true ∧ 1 < s.xsr.hc.toNat) := by
    rw [Bool.eq_iff_iff, statusFrozen_iff, decide_eq_true_eq]
  rw [updateTsr, hfrozen]

theorem updateTsr_fields (f : Word → Word) (s : State) : ∃ w, updateTsr f s = { s with tsr := w } := by
  unfold updateTsr
  split
  next => exact ⟨s.tsr, rfl⟩
  next => exact ⟨_, rfl⟩

theorem beginReset_some (k : ResetKind) {s : State} {r : ResetState} (h : s.resetting = some r) :
    beginReset k false s = { s with resetting := some { r with kind := if r.kind = .hard then .hard else k } } := by
  simp [beginReset, h]

/-- What the second watchdog event does by TCR[WRC], whatever the new TSR (61_timers.md R577). -/
theorem watchdogAction_eq {s t : State} {w : Word} (hw : updateTsr (fun x => setField x 2 (bits s.tcr 2 2)) s = { s with tsr := w })
    (ht : t = { s with
      tsr := w, tcr := setField s.tcr 2 (0 : BitVec 2), out := { s.out with watchdogTimeout := true } }) :
    (bits s.tcr 2 2 = 0 → watchdogAction s = s) ∧ (bits s.tcr 2 2 = 1 → watchdogAction s = beginReset .soft false t) ∧
      (bits s.tcr 2 2 = 2 → watchdogAction s = beginReset .hard false t) ∧
      (bits s.tcr 2 2 = 3 → watchdogAction s = { forceHalt 2 t with out := { t.out with error2 := true } }) := by
  subst ht
  refine ⟨fun h => if_pos h, fun h => ?_, fun h => ?_, fun h => ?_⟩
  · simp only [watchdogAction, hw, if_neg (show bits s.tcr 2 2 ≠ 0 by rw [h]; decide), if_pos h]
  · simp only [watchdogAction, hw, if_neg (show bits s.tcr 2 2 ≠ 0 by rw [h]; decide),
      if_neg (show bits s.tcr 2 2 ≠ 1 by rw [h]; decide), if_pos h]
  · simp only [watchdogAction, hw, if_neg (show bits s.tcr 2 2 ≠ 0 by rw [h]; decide),
      if_neg (show bits s.tcr 2 2 ≠ 1 by rw [h]; decide), if_neg (show bits s.tcr 2 2 ≠ 2 by rw [h]; decide)]
    rfl

/-- Settles O53. -/
theorem watchdogEventActions : Obligations.WatchdogEventActions := by
  intro s statusFrozen wrc status timedOut reset
  have hupdate (f : Word → Word) : updateTsr f s = status (f s.tsr) := updateTsr_eq f s
  have henw : updateTsr (fun w => setBit w 0 true) s = status (s.tsr ||| 0x80000000) :=
    (hupdate _).trans (congrArg status (setBit_true_eq_or _ (by decide) (by decide)))
  have hwis : updateTsr (fun w => setBit w 1 true) s = status (s.tsr ||| 0x40000000) :=
    (hupdate _).trans (congrArg status (setBit_true_eq_or _ (by decide) (by decide)))
  refine ⟨fun h0 => ?_, fun h0 h1 => ?_, fun h0 h1 => ?_⟩
  · rw [← henw, watchdogEvent, h0]
    rfl
  · rw [← hwis, watchdogEvent, h0, h1]
    rfl
  · have haction : watchdogEvent s = watchdogAction s := by
      rw [watchdogEvent, h0, h1]
      rfl
    obtain ⟨w, hw⟩ := updateTsr_fields (fun x => setField x 2 wrc) s
    have htimedOut : timedOut = { s with
        tsr := w, tcr := setField s.tcr 2 (0 : BitVec 2), out := { s.out with watchdogTimeout := true } } := by
      simp only [timedOut, ← hupdate fun x => setField x 2 wrc, hw]
    obtain ⟨hnone, hsoft, hhard, hhalt⟩ := watchdogAction_eq hw htimedOut
    have hreset (k : ResetKind) : beginReset k false timedOut = reset k := by
      cases hr : s.resetting with
      | none =>
        have hr' : timedOut.resetting = none := by rw [htimedOut]; exact hr
        simp only [beginReset_none k false hr', reset, hr]
        rw [htimedOut]
        rfl
      | some r =>
        have hr' : timedOut.resetting = some r := by rw [htimedOut]; exact hr
        simp only [beginReset_some k hr', reset, hr]
    rw [haction]
    refine ⟨hnone, fun h => (hsoft h).trans (hreset .soft), fun h => (hhard h).trans (hreset .hard), fun h => (hhalt h).trans ?_⟩
    rw [htimedOut]
    rfl

end Sys2Proof.Machine
end

section
/-! PROOFS. The external interface registers (62_debug_xir.md R601 to R616): what reads give, which accesses are accepted, commands and
writes. -/

namespace Sys2Proof.Machine

/-! ### Reads -/

/-- The single-bit fields of the XSR (10_state.md R69). -/
theorem xsrValue_flags (s : State) :
    bitAt s.xsrValue 0 = s.halted ∧ bitAt s.xsrValue 4 = s.xsr.hcp ∧ bitAt s.xsrValue 5 = s.xsr.rip ∧
      bitAt s.xsrValue 6 = s.xsr.sip ∧ bitAt s.xsrValue 7 = s.xsr.trap ∧ bitAt s.xsrValue 8 = s.xsr.iac ∧
      bitAt s.xsrValue 12 = s.xsr.rdac ∧ bitAt s.xsrValue 13 = s.xsr.wdac ∧ bitAt s.xsrValue 14 = s.we ∧
      bitAt s.xsrValue 15 = s.xsr.trh ∧ bitAt s.xsrValue 20 = bitAt s.msr 12 ∧ bitAt s.xsrValue 21 = s.xsrEp ∧
      bitAt s.xsrValue 22 = (s.isX && s.ee) ∧ bitAt s.xsrValue 23 = false := by
  refine ⟨?_, ?_, ?_, ?_, ?_, ?_, ?_, ?_, ?_, ?_, ?_, ?_, ?_, ?_⟩
  all_goals simp (disch := omega) only [State.xsrValue, bitAt_or, bitAt_place_disjoint, bitAt_place_ofBool, Bool.false_or, Bool.or_false]

/-- The wider fields of the XSR, bits 26 and 27 reserved (10_state.md R69). -/
theorem xsrValue_fields (s : State) :
    bits s.xsrValue 1 3 = s.xsr.hc ∧ bits s.xsrValue 9 3 = s.sibrc ∧ bits s.xsrValue 16 4 = s.sms ∧
      bits s.xsrValue 24 2 = bits s.isr 24 2 ∧ bits s.xsrValue 26 2 = 0 ∧ bits s.xsrValue 28 4 = bits s.isr 28 4 := by
  have hzero_or {n : Nat} (x : BitVec n) : 0 ||| x = x := BitVec.zero_or
  have hor_zero {n : Nat} (x : BitVec n) : x ||| 0 = x := BitVec.or_zero
  refine ⟨?_, ?_, ?_, ?_, ?_, ?_⟩
  all_goals simp (disch := omega) only [State.xsrValue, bits_or, bits_place_disjoint, bits_place_self, hzero_or, hor_zero]

theorem halted_eq_decide (s : State) : s.halted = (s.xsr.hcp && !s.xsr.rip && !s.xsr.sip && decide (s.resetting = none)) := by
  rw [State.halted]
  cases s.resetting <;> rfl

theorem ep_eq (s : State) : s.ep = (s.pins.extIntr || (bitAt s.tcr 4 && bitAt s.tsr 1) || (bitAt s.tcr 5 && bitAt s.tsr 4) ||
    (bitAt s.tcr 8 && bitAt s.tsr 5)) := by
  simp only [State.ep, State.decPending, State.fitPending, State.wdtPending]
  ac_rfl

/-- Settles O55. -/
theorem xirReadResults : Obligations.XirReadResults := by
  intro s p g x isX pending gprs
  obtain ⟨h0, h4, h5, h6, h7, h8, h12, h13, h14, h15, h20, h21, h22, h23⟩ := xsrValue_flags s
  obtain ⟨hhc, hsibrc, hsms, hmcs, hzero, hrest⟩ := xsrValue_fields s
  have hep : s.xsrEp = if isX && bitAt s.dbcr 30 && decide (1 < s.xsr.hc.toNat) then s.xsr.epHeld else pending := by
    rw [State.xsrEp, ep_eq]
    rfl
  refine ⟨⟨h0.trans (halted_eq_decide s), hhc, h4, h5, h6, h7, h8, hsibrc, h12, h13, h14, h15, hsms, h20, h21.trans hep, h22, h23,
    hmcs, hzero, hrest⟩, ?_, ?_⟩
  · cases p <;> simp only [xirReadPair, dwordOf_eq_append] <;> rfl
  · cases g <;> simp only [xirReadGprPair, State.vdr, dwordOf_eq_append] <;> rfl

/-! ### Commands -/

/-- Bits 1 to 3 of the word written to XCR (10_state.md R68). -/
theorem bits_xcr (v : Dword) : bits (dwordHi v) 1 3 = v.extractLsb' 60 3 := by
  refine BitVec.eq_of_getLsbD_eq fun i hi => ?_
  simp only [bits, dwordHi, BitVec.getLsbD_extractLsb', hi, show 32 - 1 - 3 + i < 32 by omega, decide_true, Bool.true_and]
  congr 1
  omega

/-- The command that a written doubleword holds (62_debug_xir.md R610). -/
theorem xcrCommand_eq (v : Dword) :
    ((v.extractLsb' 60 3).toNat = 0 → xcrCommand (dwordHi v) = .clearDebug) ∧
      ((v.extractLsb' 60 3).toNat = 1 → xcrCommand (dwordHi v) = .halt) ∧
      ((v.extractLsb' 60 3).toNat = 2 → xcrCommand (dwordHi v) = .resume) ∧
      ((v.extractLsb' 60 3).toNat = 3 → xcrCommand (dwordHi v) = .singleStep) ∧
      ((v.extractLsb' 60 3).toNat = 4 → xcrCommand (dwordHi v) = .toggleTrh) ∧
      ((v.extractLsb' 60 3).toNat = 5 → xcrCommand (dwordHi v) = .softReset) ∧
      ((v.extractLsb' 60 3).toNat = 6 → xcrCommand (dwordHi v) = .hardReset) ∧
      ((v.extractLsb' 60 3).toNat = 7 → xcrCommand (dwordHi v) = .forceHalt) := by
  unfold xcrCommand
  rw [bits_xcr]
  refine ⟨?_, ?_, ?_, ?_, ?_, ?_, ?_, ?_⟩
  all_goals
    intro h
    rw [h]
    rfl

/-- Which commands are accepted, by their code (62_debug_xir.md R602). -/
theorem accepted_xcrCommand (v : Dword) (s : State) :
    (xcrCommand (dwordHi v)).accepted s =
      if (v.extractLsb' 60 3).toNat = 0 ∨ (v.extractLsb' 60 3).toNat = 3 then s.halted
      else if (v.extractLsb' 60 3).toNat = 2 then s.halted || !s.xsr.hcp else true := by
  obtain ⟨h0, h1, h2, h3, h4, h5, h6, h7⟩ := xcrCommand_eq v
  have hlt := (v.extractLsb' 60 3).isLt
  generalize (v.extractLsb' 60 3).toNat = cmd at *
  interval_cases cmd
  · rw [h0 rfl]; rfl
  · rw [h1 rfl]; rfl
  · rw [h2 rfl]; rfl
  · rw [h3 rfl]; rfl
  · rw [h4 rfl]; rfl
  · rw [h5 rfl]; rfl
  · rw [h6 rfl]; rfl
  · rw [h7 rfl]; rfl

/-- A halted core accepts every command. -/
theorem accepted_of_halted (c : XcrCommand) {s : State} (h : s.halted = true) : c.accepted s = true := by
  cases c <;> simp [XcrCommand.accepted, h]

theorem xirWrite_some {p : XirPair} {v : Dword} {s t : State} (h : xirWritePair p v s = some t) :
    xirWrite p v s = { t with reply := some .accepted } := by
  simp only [xirWrite, h]

theorem xirWrite_none {p : XirPair} {v : Dword} {s : State} (h : xirWritePair p v s = none) :
    xirWrite p v s = { s with reply := some .invalidAccess } := by
  simp only [xirWrite, h]

/-- A write is accepted exactly where its condition holds. -/
theorem xirWrite_of_guard {p : XirPair} {v : Dword} {s u : State} {c : Bool} (h : xirWritePair p v s = if c then some u else none) :
    (c = true → ∃ t, xirWritePair p v s = some t ∧ xirWrite p v s = { t with reply := some .accepted }) ∧
      (c = false → xirWrite p v s = { s with reply := some .invalidAccess }) := by
  refine ⟨fun hc => ?_, fun hc => ?_⟩
  · have hsome : xirWritePair p v s = some u := by rw [h, if_pos hc]
    exact ⟨u, hsome, xirWrite_some hsome⟩
  · exact xirWrite_none (by rw [h, if_neg (by simp [hc])])

theorem halted_and_accepted (c : XcrCommand) (s : State) : (s.halted && c.accepted s) = s.halted := by
  cases h : s.halted
  · rfl
  · rw [accepted_of_halted c h, Bool.true_and]

/-- Pair 1 takes any command of a halted core (62_debug_xir.md R602). -/
theorem xirWritePair_xcrSprg0 (v : Dword) (s : State) :
    xirWritePair .xcrSprg0 v s =
      if s.halted then some ((xcrCommand (dwordHi v)).perform { s with sprg0 := dwordLo v }) else none := by
  rw [xirWritePair, halted_and_accepted]

theorem xirWritePair_xcrCtr (v : Dword) (s : State) :
    xirWritePair .xcrCtr v s =
      if (xcrCommand (dwordHi v)).accepted s then some ((xcrCommand (dwordHi v)).perform s) else none := rfl

/-- Settles O56. -/
theorem xirAccessAcceptance : Obligations.XirAccessAcceptance := by
  intro s p v cmd writable readable
  have hwrite : (writable = true → ∃ t, xirWritePair p v s = some t ∧ xirWrite p v s = { t with reply := some .accepted }) ∧
      (writable = false → xirWrite p v s = { s with reply := some .invalidAccess }) := by
    cases p with
    | xcrCtr =>
      have hctr := xirWritePair_xcrCtr v s
      rw [accepted_xcrCommand] at hctr
      exact xirWrite_of_guard hctr
    | xcrSprg0 => exact xirWrite_of_guard (xirWritePair_xcrSprg0 v s)
    | irSprg0 => exact xirWrite_of_guard (u := writeIr (dwordHi v) { s with sprg0 := dwordLo v }) rfl
    | xsrSprg0 => exact xirWrite_of_guard (u := writeXsr (dwordHi v) { s with sprg0 := dwordLo v }) rfl
    | irEdr => exact xirWrite_of_guard (u := writeIr (dwordHi v) s) rfl
    | xsrIar => exact xirWrite_of_guard (u := writeXsr (dwordHi v) { s with iar := wordAlign (dwordLo v) }) rfl
    | srr0Lr => exact ⟨fun h => absurd h Bool.false_ne_true, fun _ => xirWrite_none rfl⟩
  have hread (b : Bool) (d : Dword) : (if b then some d else none).isSome = b := by cases b <;> rfl
  obtain ⟨haccepted, hrefused⟩ := hwrite
  refine ⟨haccepted, hrefused, ?_⟩
  cases p with
  | xcrCtr => exact hread s.isX _
  | srr0Lr => exact hread s.isX _
  | _ => rfl

/-- Settles O57. -/
theorem xcrCommandResults : Obligations.XcrCommandResults := by
  intro s v cmd result reset
  obtain ⟨h0, h1, h2, h3, h4, h5, h6, h7⟩ := xcrCommand_eq v
  have hresult {c : XcrCommand} (hc : xcrCommand (dwordHi v) = c) : result = if c.accepted s then some (c.perform s) else none := by
    subst hc
    rfl
  refine ⟨fun h => hresult (h0 h), fun h => hresult (h1 h), fun h => hresult (h2 h), fun h => hresult (h3 h), fun h => hresult (h4 h),
    fun h hr => ?_, fun h hr => ?_, fun h => hresult (h7 h)⟩
  · exact (hresult (h5 h)).trans (congrArg some (beginReset_none .soft false hr))
  · exact (hresult (h6 h)).trans (congrArg some (beginReset_none .hard false hr))

/-! ### Writes -/

/-- A write of the XSR (62_debug_xir.md R607). -/
theorem writeXsr_eq (w : Word) (s : State) : writeXsr w s =
    { s with xsr := if s.cfg.variant = .ppe42x then
        { s.xsr with hc := bits w 1 3, trap := bitAt w 7, iac := bitAt w 8, rdac := bitAt w 12, wdac := bitAt w 13 }
      else s.xsr } := by
  rw [writeXsr]
  by_cases hx : s.cfg.variant = .ppe42x
  · rw [if_pos ((isX_iff s).2 hx), if_pos hx]
  · rw [if_neg (mt (isX_iff s).1 hx), if_neg hx]

/-- Settles O58. -/
theorem xirWriteResults : Obligations.XirWriteResults := by
  intro s v w0 w1 whenHalted rammed written
  have hwhen {t u : State} (h : t = u) : (if s.halted then some t else none) = whenHalted u := by rw [h]
  refine ⟨?_, rfl, hwhen (writeXsr_eq _ _), rfl, hwhen (writeXsr_eq _ _), rfl⟩
  rw [xirWritePair_xcrSprg0, xirWritePair_xcrCtr, accepted_sprg0]
  by_cases h : s.halted = true
  · rw [if_pos h, if_pos h, if_pos (accepted_of_halted _ h)]
    rfl
  · rw [if_neg h, if_neg h]

end Sys2Proof.Machine
end

section
/-! PROOFS. A reset in progress (70_reset_and_hazards.md R702 to R706) and the halted state (62_debug_xir.md R621 to R626, R650, R654). -/

namespace Sys2Proof.Machine

/-! ### Reset -/

theorem coreStep_resetting {s : State} {r : ResetState} (h : (sampleHresetReq s).resetting = some r) :
    coreStep s = .next (resetStep r (sampleHresetReq s)) := by
  simp only [coreStep, h]

theorem sampleHresetReq_active {s : State} (h : s.pins.hresetReq = true) : sampleHresetReq s = beginReset .hard true s := if_pos h

/-- The level of `hreset_req` makes any reset a hard one that is yet to be applied (70_reset_and_hazards.md R700, R702). -/
theorem beginReset_level {s : State} {r : ResetState} (h : s.resetting = some r) :
    beginReset .hard true s = { s with resetting := some ⟨.hard, true, false⟩ } := by
  simp only [beginReset, h, ite_self, Bool.or_true, Bool.not_true, Bool.and_false]

/-- The reset lasts while `hreset_req` is active. -/
theorem resetStep_held {s : State} {r : ResetState} (hr : r.hreset = true) (h : s.pins.hresetReq = true) : resetStep r s = s := by
  simp [resetStep, hr, h]

theorem resetStep_acknowledged {s : State} {r : ResetState} (h : s.pins.hresetReq = false) (ha : r.applied = false)
    (hack : s.sys.resetAck = true) : resetStep r s = takeReset (applyReset r s) := by
  have happlied : (applyReset r s).sys.resetAck = true := hack
  simp only [resetStep, h, ha, happlied, Bool.and_false, Bool.false_eq_true, if_false, if_true]

/-- The system reset interrupt keeps SIBRC alone of the MSR (60_exceptions.md R519). -/
theorem takeReset_eq (s : State) : takeReset s =
    { s with
      srr0 := s.iar &&& ~~~3
      srr1 := s.msr
      msr := place s.sibrc 9
      iar := place s.cfg.ivpr 0 ||| 0x040
      resetting := none
      pending := [] } := by
  have hmsr : place s.sibrc 9 ||| place (ofBool (false && s.me)) 19 = place s.sibrc 9 := by
    rw [Bool.false_and, show place (ofBool false) 19 = 0#32 from rfl, BitVec.or_zero]
  rw [takeReset, enter_eq_entered, State.entered]
  exact congrArg (fun m => { s with
    srr0 := s.iar &&& ~~~3, srr1 := s.msr, msr := m, iar := place s.cfg.ivpr 0 ||| 0x040, resetting := none, pending := [] }) hmsr

/-- Settles O59. -/
theorem resetSequenceResult : Obligations.ResetSequenceResult := by
  refine ⟨fun s r hr ha hq hp hack => ?_, fun s hq hp hr => ?_, fun s r hq hp hr => ?_⟩
  · have hsample : sampleHresetReq (s.latched s.ir) = s.latched s.ir := sampleHresetReq_inactive (s.latched s.ir) hp
    have hresetting : (sampleHresetReq (s.latched s.ir)).resetting = some r := by
      rw [hsample]
      exact hr
    rw [step_of_stimuli_nil hq, coreStep_resetting hresetting, hsample, resetStep_acknowledged (s := s.latched s.ir) hp ha hack,
      takeReset_eq]
    rfl
  · have hsample : sampleHresetReq (s.latched s.ir) =
        { s.latched s.ir with isr := setField s.isr 16 s.sms, resetting := some ⟨.hard, true, false⟩ } :=
      (sampleHresetReq_active (s := s.latched s.ir) hp).trans (beginReset_none .hard true (s := s.latched s.ir) hr)
    rw [step_of_stimuli_nil hq, coreStep_resetting (congrArg State.resetting hsample), hsample]
    exact congrArg Host.Outcome.next (resetStep_held rfl hp)
  · have hsample : sampleHresetReq (s.latched s.ir) = { s.latched s.ir with resetting := some ⟨.hard, true, false⟩ } :=
      (sampleHresetReq_active (s := s.latched s.ir) hp).trans (beginReset_level (s := s.latched s.ir) hr)
    rw [step_of_stimuli_nil hq, coreStep_resetting (congrArg State.resetting hsample), hsample]
    exact congrArg Host.Outcome.next (resetStep_held rfl hp)

/-! ### The halted state -/

theorem instructionStep_halted {s : State} (h : s.halted = true) : instructionStep s = .next s := if_pos h

/-- The step that executes an instruction ends with neither a ram nor a step in progress; a halt condition and a locked code stay. -/
theorem instructionStep_ends (s : State) :
    ∃ u, instructionStep s = .next u ∧ u.xsr.rip = false ∧ u.xsr.sip = false ∧ (s.xsr.hcp = true → u.xsr.hcp = true) ∧
      (s.xsr.hc ≠ 0 → u.xsr.hc = s.xsr.hc) := by
  obtain ⟨hhalted, hstep⟩ | ⟨-, t, hstep, ht⟩ := instructionStep_continues s
  · obtain ⟨-, hrip, hsip, -⟩ := (halted_iff s).1 hhalted
    exact ⟨s, hstep, hrip, hsip, id, fun _ => rfl⟩
  · exact ⟨endInstruction t, hstep, rfl, rfl, ht.hcp, ht.hc⟩

theorem halted_of_ended {u : State} (hcp : u.xsr.hcp = true) (hrip : u.xsr.rip = false) (hsip : u.xsr.sip = false) :
    u.halted = u.resetting.isNone := by
  rw [State.halted, hcp, hrip, hsip]
  rfl

theorem raisedCode_ne_zero (c : BitVec 3) : (if c = 0 then 6 else c) ≠ 0 := by
  split
  next => decide
  next h => exact h

theorem sampleHaltReq_active {s : State} (h : s.pins.haltReq = true) : sampleHaltReq s = raiseHalt 6 s := if_pos h

theorem step_running_sampled {s : State} (hq : s.stimuli = []) (hr : s.resetting = none) (hp : s.pins.hresetReq = false) :
    step s = instructionStep (sampleHaltReq (s.latched s.ir)) :=
  (step_of_stimuli_nil hq).trans (coreStep_running (s.latched s.ir) hr hp)

/-- Settles O60. -/
theorem haltedStateResults : Obligations.HaltedStateResults := by
  refine ⟨fun s hhalted hq hp hh => ?_, fun s level rest hq => ?_, fun s hq hr hp hh => ⟨fun hrip hsip => ?_, ?_⟩,
    fun s hq hr hp hhcp _ => ?_⟩
  · obtain ⟨-, -, -, hr⟩ := (halted_iff s).1 hhalted
    rw [step_eq_instructionStep hq hr hp hh, instructionStep_halted (s := s.latched s.ir) hhalted]
  · rw [step_of_stimuli_cons hq]
    cases level <;> rfl
  · rw [step_running_sampled hq hr hp, sampleHaltReq_active (s := s.latched s.ir) hh]
    exact instructionStep_halted (s := raiseHalt 6 (s.latched s.ir)) ((halted_iff _).2 ⟨rfl, hrip, hsip, hr⟩)
  · rw [step_running_sampled hq hr hp, sampleHaltReq_active (s := s.latched s.ir) hh]
    obtain ⟨u, hstep, hurip, husip, huhcp, huhc⟩ := instructionStep_ends (raiseHalt 6 (s.latched s.ir))
    exact ⟨u, hstep, huhcp rfl, huhc (raisedCode_ne_zero s.xsr.hc), hurip, husip⟩
  · rw [step_running_sampled hq hr hp]
    obtain ⟨u, hstep, hurip, husip, huhcp, -⟩ := instructionStep_ends (sampleHaltReq (s.latched s.ir))
    have hcp := huhcp ((continues_sampleHaltReq (s.latched s.ir)).hcp hhcp)
    exact ⟨u, hstep, hurip, husip, hcp, halted_of_ended hcp hurip husip⟩

end Sys2Proof.Machine
end
